-- ==== Sys2Proof/Word.lean ====
section
/-! DEFINITION. The words of the WX-16: bytes, 40-bit addresses, 32-bit stamps, 16-bit sequence numbers, and the
numbers of its ports, windows, banks, pool records and requesters (00_scope.md, 0.5 Conventions). -/

namespace Sys2Proof

/-- One byte. -/
abbrev Byte := BitVec 8

/-- A byte address (0.5: byte addresses are 40 bits wide). -/
abbrev Addr := BitVec 40

/-- A value of the stamp counter, taken as a time (R155). -/
abbrev Stamp := BitVec 32

/-- A sequence number: 1 to 65535, and 0 for "none" (0.5, R11). -/
abbrev SeqNum := BitVec 16

/-- A port: 0 to 3 for I0 to I3. -/
abbrev PortId := Fin 4

/-- A window: 0 to 15 for W0 to W15. -/
abbrev WinId := Fin 16

/-- A bank index within a window (R3). -/
abbrev BankId := Fin 8

/-- A pool record number (R8). -/
abbrev RecId := Fin 48

/-- A requester of the memory port in its cyclic order: 0 to 3 for I0 to I3, 4 for ENGINE (R143, R147). -/
abbrev Requester := Fin 5

/-- A set of ports, bit n for In, the form in which the link writes and reads it (R183, R186). -/
abbrev PortSet := BitVec 4

/-- The data bytes of one bus transaction in address order, byte k in bits 8k to 8k + 7; at most 128 bytes (0.5). -/
abbrev Burst := BitVec 1024

/-- The byte enables of one bus transaction, bit k for byte k of its span. -/
abbrev Enables := BitVec 128

/-- The 64 bytes of a granule, byte k in bits 8k to 8k + 7. -/
abbrev GranuleBytes := BitVec 512

/-- A 32-bit window counter (R172). -/
abbrev Count32 := BitVec 32

end Sys2Proof
end

