-- ==== Sys2Proof/Config.lean ====
section
/-! DEFINITION. What the part fixes: the sizes of its lists and the limits of its records. The specification leaves no value
of the WX-16 to an implementation, so this file holds no free value. -/

namespace Sys2Proof.Config

/-- Entries of an accepted list (R126). -/
def acceptedMax : Nat := 8

/-- Entries of the outstanding-issue list (R146). -/
def outstandingMax : Nat := 32

/-- Records of the fault queue (R166). -/
def faultMax : Nat := 16

/-- Granules of the longest window (R16). -/
def granulesMax : Nat := 1024

/-- Bytes of a granule (0.5). -/
def granuleBytes : Nat := 64

/-- Overlay bytes of a window with OVERLAY on (R114). -/
def overlayBytes : Nat := 16

/-- Bytes of the blocks that a well-formed transaction does not cross (R129). -/
def blockBytes : Nat := 4096

/-- One past the highest byte address (R16). -/
def addressTop : Nat := 2 ^ 40

/-- The prescaler after RSTn (R156). -/
def prescalerReset : Nat := 25

/-- The largest prescaler value (R156). -/
def prescalerMax : Nat := 250

/-- Clocks of a complete frame (R177). -/
def frameClocks : Nat := 64

/-- The value at which the receiver's clock count stops (R176). -/
def clockCountMax : Nat := 255

end Sys2Proof.Config
end

