-- ==== Sys2Proof/Syntax.lean ====
section
/-! DEFINITION. The commands of the WX-16, one constructor per row of spec/opcode_table.json, with their operands: the
transaction an initiator presents, the completion the memory returns, the request a management frame carries. -/

namespace Sys2Proof

/-- The direction of a transaction (0.5). -/
inductive Kind where
  | read
  | write
  deriving DecidableEq, Repr

/-- Bytes per beat: 1, 2, 4 or 8 (0.5). -/
inductive BeatSize where
  | b1
  | b2
  | b4
  | b8
  deriving DecidableEq, Repr

/-- A transaction as an initiator presents it (0.5 Conventions, the table of transaction fields). The port on which it
arrived is an operand of ACCEPT and stays with the accepted list it joins. -/
structure Txn where
  /-- Opaque value echoed in the response. -/
  tag : BitVec 4
  kind : Kind
  /-- Byte address of the first byte. -/
  addr : Addr
  beatSize : BeatSize
  /-- Beats in the burst, less one: 0 to 15 for 1 to 16 beats. -/
  burst : Fin 16
  /-- For WRITE, the data bytes of the span. -/
  wdata : Burst
  /-- For WRITE, the byte enables of the span. -/
  wen : Enables
  deriving DecidableEq, Repr

/-- Bytes 1 to 7 of a management request (R177). Byte 0, the opcode, is the constructor of the command. -/
structure LinkReq where
  /-- Byte 1, WINDOW. -/
  window : Byte
  /-- Byte 2, FIELD. -/
  field : Byte
  /-- Byte 3, INDEX. -/
  index : Byte
  /-- Bytes 4 to 7, VALUE, little-endian. -/
  value : BitVec 32
  deriving DecidableEq, Repr

/-- The commands: the operations and events of the part, each whole and indivisible (95_what_each_step_holds.md). -/
inductive Instr where
  /-- RSTn falls (R141). -/
  | rstnAssert
  /-- RSTn rises, with CSn low at that moment or not (R14, R176). -/
  | rstnRelease (csnLow : Bool)
  /-- The initiator of a port has a transaction presented and the port takes it if it may (R127). -/
  | accept (p : PortId) (t : Txn)
  /-- A port hands its oldest WAITING entry to the decoder (R128). -/
  | dispatch (p : PortId)
  /-- A port returns the response of its oldest entry (R140). -/
  | responseReturn (p : PortId)
  /-- The arbiter makes a grant (R147). -/
  | grant
  /-- Memory returns a completion: OK or ERROR and, for a READ, the bytes of the part in address order (R150). -/
  | memoryCompletion (ok : Bool) (rdata : Burst)
  /-- The phase count reaches P and the stamp counter increments (R156). -/
  | stampIncrement
  /-- The open deadline of a window is taken (R43). -/
  | openDeadline (w : WinId)
  /-- The claim deadline of a port in a window is taken (R64). -/
  | claimDeadline (w : WinId) (p : PortId)
  /-- The hold deadline of a port's held entry is taken (R136). -/
  | holdDeadline (p : PortId)
  /-- A frame ends; the list holds the SDI bits of its clocks, the first clock's bit first (R178). -/
  | frameError (bits : List Bool)
  /-- A complete request with an opcode that is not a command (R180). -/
  | undefinedOpcode (opcode : Byte) (r : LinkReq)
  | status (r : LinkReq)
  | stageWrite (r : LinkReq)
  | stageRead (r : LinkReq)
  | enable (r : LinkReq)
  | disable (r : LinkReq)
  | suspend (r : LinkReq)
  | resume (r : LinkReq)
  | sessionClear (r : LinkReq)
  | windowRead (r : LinkReq)
  | bankRead (r : LinkReq)
  | claimRead (r : LinkReq)
  | portRead (r : LinkReq)
  | counterRead (r : LinkReq)
  | counterClear (r : LinkReq)
  | faultPeek (r : LinkReq)
  | faultPop (r : LinkReq)
  | faultClear (r : LinkReq)
  | timeRead (r : LinkReq)
  | prescale (r : LinkReq)
  | maskWrite (r : LinkReq)
  /-- CSn rises while no frame is in progress (R176, R178). -/
  | csnRiseWithoutFrame
  deriving DecidableEq, Repr

/-- Bytes of one beat. -/
def BeatSize.bytes : BeatSize → Nat
  | .b1 => 1
  | .b2 => 2
  | .b4 => 4
  | .b8 => 8

/-- Bytes of the span of a transaction (R129): 1 to 128. -/
def Txn.bytes (t : Txn) : Nat := t.beatSize.bytes * (t.burst.val + 1)

end Sys2Proof
end

