-- ==== Sys2Proof/Decode.lean ====
section
/-! DEFINITION. The request word of the management link (R177): 8 bytes, byte 0 OPCODE, byte 1 WINDOW, byte 2 FIELD,
byte 3 INDEX, bytes 4 to 7 VALUE, with the opcodes of 11.3. The rows of the opcode table themselves give no bits; the 64-bit
request is the only encoding the specification states, so it is the one `decodeTableWord` reads. -/

namespace Sys2Proof

/-- The opcode of a management command (11.3, the command set); none for a command that is not a management frame, and for
UNDEFINED_OPCODE, whose opcode is its operand. -/
def opcodeOf : Instr → Option Byte
  | .status _ => some 0x01#8
  | .stageWrite _ => some 0x10#8
  | .stageRead _ => some 0x11#8
  | .enable _ => some 0x20#8
  | .disable _ => some 0x21#8
  | .suspend _ => some 0x22#8
  | .resume _ => some 0x23#8
  | .sessionClear _ => some 0x24#8
  | .windowRead _ => some 0x30#8
  | .bankRead _ => some 0x31#8
  | .claimRead _ => some 0x32#8
  | .portRead _ => some 0x33#8
  | .counterRead _ => some 0x34#8
  | .counterClear _ => some 0x35#8
  | .faultPeek _ => some 0x40#8
  | .faultPop _ => some 0x41#8
  | .faultClear _ => some 0x42#8
  | .timeRead _ => some 0x50#8
  | .prescale _ => some 0x51#8
  | .maskWrite _ => some 0x52#8
  | .undefinedOpcode op _ => some op
  | .rstnAssert => none
  | .rstnRelease _ => none
  | .accept _ _ => none
  | .dispatch _ => none
  | .responseReturn _ => none
  | .grant => none
  | .memoryCompletion _ _ => none
  | .stampIncrement => none
  | .openDeadline _ => none
  | .claimDeadline _ _ => none
  | .holdDeadline _ => none
  | .frameError _ => none
  | .csnRiseWithoutFrame => none

/-- Whether an opcode is a command of the table in 11.3 (R180, check 2). -/
def isCommandOpcode (op : Byte) : Bool :=
  [0x01#8, 0x10#8, 0x11#8, 0x20#8, 0x21#8, 0x22#8, 0x23#8, 0x24#8, 0x30#8, 0x31#8, 0x32#8, 0x33#8, 0x34#8, 0x35#8,
    0x40#8, 0x41#8, 0x42#8, 0x50#8, 0x51#8, 0x52#8].contains op

/-- The command that a complete request asks for (11.3): every opcode outside the table is UNDEFINED_OPCODE. -/
def linkCommand (op : Byte) (r : LinkReq) : Instr :=
  match op.toNat with
  | 0x01 => .status r
  | 0x10 => .stageWrite r
  | 0x11 => .stageRead r
  | 0x20 => .enable r
  | 0x21 => .disable r
  | 0x22 => .suspend r
  | 0x23 => .resume r
  | 0x24 => .sessionClear r
  | 0x30 => .windowRead r
  | 0x31 => .bankRead r
  | 0x32 => .claimRead r
  | 0x33 => .portRead r
  | 0x34 => .counterRead r
  | 0x35 => .counterClear r
  | 0x40 => .faultPeek r
  | 0x41 => .faultPop r
  | 0x42 => .faultClear r
  | 0x50 => .timeRead r
  | 0x51 => .prescale r
  | 0x52 => .maskWrite r
  | _ => .undefinedOpcode op r

/-- Byte 0 of a request word, OPCODE (R177). -/
def wordOpcode (w : BitVec 64) : Byte := w.extractLsb' 0 8

/-- Bytes 1 to 7 of a request word (R177; multi-byte fields are little-endian). -/
def wordRequest (w : BitVec 64) : LinkReq where
  window := w.extractLsb' 8 8
  field := w.extractLsb' 16 8
  index := w.extractLsb' 24 8
  value := w.extractLsb' 32 32

/-- The command of a request word. -/
def decodeRequest (w : BitVec 64) : Instr := linkCommand (wordOpcode w) (wordRequest w)

/-- The request word of an opcode and the other seven bytes (R177). -/
def requestWord (op : Byte) (r : LinkReq) : BitVec 64 := r.value ++ (r.index ++ (r.field ++ (r.window ++ op)))

/-- Bytes 1 to 7 of a management command. -/
def requestOf : Instr → Option LinkReq
  | .status r | .stageWrite r | .stageRead r | .enable r | .disable r | .suspend r | .resume r | .sessionClear r => some r
  | .windowRead r | .bankRead r | .claimRead r | .portRead r | .counterRead r | .counterClear r => some r
  | .faultPeek r | .faultPop r | .faultClear r | .timeRead r | .prescale r | .maskWrite r => some r
  | .undefinedOpcode _ r => some r
  | .rstnAssert | .rstnRelease _ | .accept _ _ | .dispatch _ | .responseReturn _ | .grant => none
  | .memoryCompletion _ _ | .stampIncrement | .openDeadline _ | .claimDeadline _ _ | .holdDeadline _ => none
  | .frameError _ | .csnRiseWithoutFrame => none

/-- The request word that asks for a management command (R177, 11.3); none for a command that no frame carries. -/
def encodeRequest (i : Instr) : Option (BitVec 64) :=
  match opcodeOf i, requestOf i with
  | some op, some r => some (requestWord op r)
  | _, _ => none

/-- The command a word spells: a 64-bit word is a management request, byte 0 in bits 7 to 0. No row of the table gives
bits, so no other length spells a command. -/
def decodeTableWord (nbits w : Nat) : Option Instr :=
  if nbits = 64 then some (decodeRequest (BitVec.ofNat 64 w)) else none

end Sys2Proof
end

