-- ==== Sys2Proof/Machine/State.lean ====
section
/-! DEFINITION. The state of the WX-16 as plain data, block by block (00_scope.md, 0.3), the reasons a step could stop, and
the state right after RSTn is released. -/

namespace Sys2Proof.Machine

open Sys2Proof

/-! ### The window record (chapter 1) -/

/-- MODE of a window (R1). -/
inductive Mode where
  | snapshot
  | queue
  deriving DecidableEq, Repr

/-- TRIGGER: which producer write ends a session (R1, R31). -/
inductive Trigger where
  | atEnd
  | atHead
  deriving DecidableEq, Repr

/-- PARTIAL: treatment of a partly written SNAPSHOT session (R1, R36). -/
inductive PartialPolicy where
  | merge
  | discard
  deriving DecidableEq, Repr

/-- EMPTY: a consumer read with nothing to claim (R1, R53). -/
inductive EmptyPolicy where
  | pattern
  | refuse
  deriving DecidableEq, Repr

/-- FULL: a QUEUE producer write with no FREE bank (R1, R91). -/
inductive FullPolicy where
  | refuse
  | hold
  deriving DecidableEq, Repr

/-- The window record, one field per row of the table of R1; each width is exactly the "values held" column. -/
structure WindowRec where
  mode : Mode
  base : Addr
  granules : BitVec 11
  banks : BitVec 4
  /-- SHADOW[1] to SHADOW[7], SHADOW[k] at place k − 1. -/
  shadow : Vector Addr 7
  producer : PortId
  consumers : PortSet
  trigger : Trigger
  partialPolicy : PartialPolicy
  overlay : Bool
  empty : EmptyPolicy
  full : FullPolicy
  fillbyte : Byte
  claimlim : BitVec 16
  openlim : BitVec 16
  holdlim : BitVec 16
  /-- RDYEN, the producer-ready enable. -/
  rdyProducer : Bool
  /-- RDYEN, the consumer-ready enable. -/
  rdyConsumer : Bool
  /-- FMASK, bit k − 1 the enable of fault code k, for k = 1 to 10. -/
  fmask : BitVec 10
  deriving DecidableEq, Repr

/-- Every field at the value of the column "After RSTn" of R1. -/
def WindowRec.reset : WindowRec where
  mode := .snapshot
  base := 0
  granules := 1
  banks := 3
  shadow := Vector.replicate 7 0
  producer := 0
  consumers := 0
  trigger := .atEnd
  partialPolicy := .merge
  overlay := false
  empty := .pattern
  full := .refuse
  fillbyte := 0
  claimlim := 0
  openlim := 0
  holdlim := 1000
  rdyProducer := false
  rdyConsumer := false
  fmask := BitVec.allOnes 10

/-! ### The bank pool (R8, R9) -/

/-- STATE of a bank (R25, R87). -/
inductive BankState where
  | free
  | filling
  | committing
  | merging
  | expiring
  | current
  | held
  | queued
  deriving DecidableEq, Repr

/-- A bank record, one field per row of the table of R9. -/
structure BankRec where
  /-- The window and bank index, or none for a free record. -/
  owner : Option (WinId × BankId)
  pbase : Addr
  state : BankState
  session : Byte
  /-- COVER, in increasing order and without repeats. -/
  cover : List Nat
  poison : Bool
  seq : SeqNum
  length : Nat
  written : Nat
  stamp : Stamp
  merged : Nat
  patterned : Bool
  holders : PortSet
  deliveries : Byte
  winflight : Nat
  deriving DecidableEq, Repr

/-- The initial values of R9 for a record with the given owner and physical base. -/
def BankRec.initial (owner : Option (WinId × BankId)) (pbase : Addr) : BankRec where
  owner := owner
  pbase := pbase
  state := .free
  session := 0
  cover := []
  poison := false
  seq := 0
  length := 0
  written := 0
  stamp := 0
  merged := 0
  patterned := false
  holders := 0
  deliveries := 0
  winflight := 0

/-- A free record after RSTn: OWNER none (R8). DESIGN CHOICE (log 3): the other fields, which no block sees, hold the
initial values of R9 and PBASE 0. -/
def BankRec.unowned : BankRec := BankRec.initial none 0

/-! ### The window controllers (1.4) -/

/-- The producer record (R11, R122). -/
structure ProducerRec where
  bank : Option BankId
  opendl : Option Stamp
  nextseq : SeqNum
  lastdrop : Bool
  lastrefused : Bool
  laststamp : Stamp
  deriving DecidableEq, Repr

/-- The producer record after RSTn and at ENABLE: cleared, NEXTSEQ 1, LASTSTAMP 0 (R11, R122). -/
def ProducerRec.reset : ProducerRec where
  bank := none
  opendl := none
  nextseq := 1
  lastdrop := false
  lastrefused := false
  laststamp := 0

/-- A claim record (R12, R49). -/
structure Claim where
  bank : Option BankId
  claimdl : Option Stamp
  reads : Nat
  closing : Bool
  deferred : Bool
  expired : Bool
  missed : Byte
  lastseq : SeqNum
  claimmissed : Byte
  claimexpired : Bool
  deriving DecidableEq, Repr

/-- The cleared claim record of R49. -/
def Claim.cleared : Claim where
  bank := none
  claimdl := none
  reads := 0
  closing := false
  deferred := false
  expired := false
  missed := 0
  lastseq := 0
  claimmissed := 0
  claimexpired := false

/-- The lifecycle states (R14). -/
inductive Life where
  | off
  | active
  | suspending
  | suspended
  | retiring
  | restarting
  deriving DecidableEq, Repr

/-- The working state of a window controller (1.4, 1.5). -/
structure WinCtl where
  life : Life
  /-- OUTSTANDING (R13). -/
  outstanding : Nat
  prod : ProducerRec
  claims : Vector Claim 4
  /-- The order list, oldest first (R88). -/
  order : List BankId
  commits : Count32
  drops : Count32
  refusals : Count32
  expiries : Count32
  deriving DecidableEq, Repr

/-- A window controller after RSTn (R11, R12, R13, R14, R49, R172). -/
def WinCtl.reset : WinCtl where
  life := .off
  outstanding := 0
  prod := .reset
  claims := Vector.replicate 4 .cleared
  order := []
  commits := 0
  drops := 0
  refusals := 0
  expiries := 0

/-! ### The initiator port units (R126) -/

/-- STATE of an accepted-list entry. -/
inductive EntryState where
  | waiting
  | held
  | dispatched
  | answered
  deriving DecidableEq, Repr

/-- The response codes (0.5). -/
inductive Code where
  | okay
  | refused
  | fault
  deriving DecidableEq, Repr

/-- An entry of an accepted list: the transaction record and the port's own fields (R126). `serial`, `dest` and `trigger` are
the model's names for what other rules have the part remember of an entry: which entry a request refers to (R143, REF), the
bank a producer write keeps as its destination (R30), and the controller's mark of the session's trigger (R31). -/
structure Entry where
  /-- MODEL'S OWN (log 4): the name by which requests refer to the entry. -/
  serial : Nat
  txn : Txn
  state : EntryState
  code : Option Code
  parts : Nat
  errored : Bool
  /-- DATA: for a READ, the bytes of its span as assembled so far. -/
  data : List Byte
  holdwin : Option WinId
  holddl : Option Stamp
  /-- The bank a producer write was steered into (R30). -/
  dest : Option BankId
  /-- The mark of the session's trigger (R31). -/
  trigger : Bool
  deriving DecidableEq, Repr

/-- A port unit: its accepted list, oldest first. -/
structure PortUnit where
  entries : List Entry
  /-- MODEL'S OWN (log 4): the serial of the next entry. -/
  nextSerial : Nat
  deriving DecidableEq, Repr

/-- A port unit after RSTn (R126). -/
def PortUnit.reset : PortUnit where
  entries := []
  nextSerial := 0

/-! ### The merge engine (R69, R70) -/

/-- PHASE of a merge job. -/
inductive Phase where
  | waiting
  | reading
  | writing
  deriving DecidableEq, Repr

/-- A merge job. SOURCE none is PATTERN. -/
structure Job where
  window : WinId
  dest : BankId
  source : Option BankId
  /-- PENDING, in increasing order. -/
  pending : List Nat
  filled : Nat
  phase : Phase
  aborted : Bool
  deriving DecidableEq, Repr

/-- The merge engine: the job list, head first, and the granule buffer. -/
structure Engine where
  jobs : List Job
  buffer : GranuleBytes
  deriving DecidableEq, Repr

/-- The engine after RSTn: no job (R85). DESIGN CHOICE (log 3): the buffer, which has no meaning then, holds 0. -/
def Engine.reset : Engine where
  jobs := []
  buffer := 0

/-! ### The memory port unit (R143, R146, R147) -/

/-- REF of a request: the accepted-list entry a part belongs to, or the job's window. -/
inductive Ref where
  | entry (serial : Nat)
  | job (w : WinId)
  deriving DecidableEq, Repr

/-- A request, one field per row of the table of R143. -/
structure MemReq where
  owner : Requester
  ref : Ref
  window : Option WinId
  bank : Option BankId
  kind : Kind
  offset : Addr
  beatSize : BeatSize
  /-- Beats less one. -/
  burst : Fin 16
  wdata : Burst
  wen : Enables
  /-- MODEL'S OWN (log 4): the place of the part's first byte in the span of its transaction. -/
  pos : Nat
  deriving DecidableEq, Repr

/-- An entry of the outstanding-issue list (R146). -/
structure Issue where
  owner : Requester
  ref : Ref
  window : Option WinId
  kind : Kind
  addr : Addr
  beatSize : BeatSize
  burst : Fin 16
  /-- MODEL'S OWN (log 4): as in the request. -/
  pos : Nat
  deriving DecidableEq, Repr

/-- The memory port unit: the five request queues, the outstanding-issue list (both oldest first) and the arbiter's pointer. -/
structure MemPort where
  queues : Vector (List MemReq) 5
  outstanding : List Issue
  pointer : Requester
  deriving DecidableEq, Repr

/-- The memory port after RSTn (R143, R146, R147). -/
def MemPort.reset : MemPort where
  queues := Vector.replicate 5 []
  outstanding := []
  pointer := 0

/-! ### The stamp counter and the prescaler (R155, R156) -/

/-- The time base. A PRESCALE stores `p` at once and it governs from the next increment; `pNow` is the P of the interval in
progress (R156). -/
structure TimeBase where
  stamp : Stamp
  p : Nat
  pNow : Nat
  /-- REFCLK cycles since the last increment. -/
  phase : Nat
  deriving DecidableEq, Repr

/-- The time base after RSTn (R155, R156). -/
def TimeBase.reset : TimeBase where
  stamp := 0
  p := Config.prescalerReset
  pNow := Config.prescalerReset
  phase := 0

/-! ### The fault unit (R166, R167) -/

/-- The thirteen fault kinds. -/
inductive FaultKind where
  | memWriteError
  | memReadError
  | mergeError
  | droppedPoison
  | droppedPartial
  | openAbandoned
  | claimExpired
  | holdExpired
  | queueFull
  | foreign
  | malformed
  | shadowAccess
  | straddle
  deriving DecidableEq, Repr

/-- A fault record (R166). -/
structure FaultRec where
  kind : FaultKind
  window : Option WinId
  port : Option PortId
  location : Option Nat
  stamp : Stamp
  deriving DecidableEq, Repr

/-- The fault unit: the queue, oldest first, OVERRUN and the global mask. -/
structure FaultUnit where
  queue : List FaultRec
  overrun : Byte
  /-- Bit 0 MALFORMED, bit 1 SHADOW_ACCESS, bit 2 STRADDLE (R188). -/
  mask : BitVec 3
  deriving DecidableEq, Repr

/-- The fault unit after RSTn (R166). -/
def FaultUnit.reset : FaultUnit where
  queue := []
  overrun := 0
  mask := BitVec.allOnes 3

/-! ### The management link controller (R176) -/

/-- The answer statuses (R180). -/
inductive Status where
  | none
  | done
  | busy
  | invalid
  | badState
  | badWindow
  | badField
  | empty
  | frameErr
  deriving DecidableEq, Repr

/-- An answer: status, echoed opcode and the six data bytes (R177). -/
structure Answer where
  status : Status
  opcode : Byte
  data : Vector Byte 6
  deriving DecidableEq, Repr

/-- The answer latch after RSTn: NONE (R176). -/
def Answer.reset : Answer where
  status := .none
  opcode := 0
  data := Vector.replicate 6 0

/-- The long-operation record: the opcode and the windows whose drains are awaited, in increasing order (R176, R181). -/
structure LongOp where
  opcode : Byte
  windows : List WinId
  deriving DecidableEq, Repr

/-- The receiver (R176): whether a frame is in progress, its clock count, stopping at 255, and the SDI bits received so far,
first one first. `awaitRise` is on from a release of RSTn with CSn low until CSn rises: no frame begins then. -/
structure Receiver where
  inProgress : Bool
  count : Nat
  bits : List Bool
  awaitRise : Bool
  deriving DecidableEq, Repr

/-- No frame in progress, count 0. -/
def Receiver.idle : Receiver where
  inProgress := false
  count := 0
  bits := []
  awaitRise := false

/-- The link controller. -/
structure Link where
  staged : Vector WindowRec 16
  latch : Answer
  busy : Bool
  longOp : LongOp
  receiver : Receiver
  deriving DecidableEq, Repr

/-- The link controller after RSTn with CSn high (R176). -/
def Link.reset : Link where
  staged := Vector.replicate 16 .reset
  latch := .reset
  busy := false
  longOp := ⟨0, []⟩
  receiver := .idle

/-! ### What the part last drove on its pins (MODEL'S OWN record of outputs, log 5) -/

/-- A transaction issued on M (R149). -/
structure MTxn where
  addr : Addr
  kind : Kind
  beatSize : BeatSize
  burst : Fin 16
  wdata : Burst
  wen : Enables
  /-- The memory-side tag: the requester's number. -/
  tag : Requester
  deriving DecidableEq, Repr

/-- A response on an initiator port (R139, R140): for a READ one 64-bit beat per beat of the transaction, for a WRITE none. -/
structure Response where
  tag : BitVec 4
  kind : Kind
  code : Code
  beats : List (BitVec 64)
  deriving DecidableEq, Repr

/-- What SDO carried in a frame: the answer shifted out and the frame's clocks (R177). -/
structure SdoFrame where
  answer : Answer
  clocks : Nat
  deriving DecidableEq, Repr

/-- The last transaction issued on M, the last response on each port and the last frame on SDO; none before the first one
after RSTn. No rule reads them. -/
structure Outputs where
  issued : Option MTxn
  responses : Vector (Option Response) 4
  sdo : Option SdoFrame
  deriving DecidableEq, Repr

/-- Nothing driven yet. -/
def Outputs.reset : Outputs where
  issued := none
  responses := Vector.replicate 4 none
  sdo := none

/-! ### The machine -/

/-- The state of the WX-16 and the commands that wait for it. -/
structure State where
  /-- The level of RSTn: on while it is high. -/
  rstn : Bool
  ports : Vector PortUnit 4
  windows : Vector WinCtl 16
  pool : Vector BankRec 48
  engine : Engine
  mport : MemPort
  time : TimeBase
  faults : FaultUnit
  link : Link
  out : Outputs
  /-- The commands that are waiting, first in, first out. -/
  pending : List Instr
  deriving DecidableEq, Repr

/-- The machine right after RSTn is released with CSn high (R14 and the rules cited at each block's own reset value). -/
def State.reset : State where
  rstn := true
  ports := Vector.replicate 4 .reset
  windows := Vector.replicate 16 .reset
  pool := Vector.replicate 48 .unowned
  engine := .reset
  mport := .reset
  time := .reset
  faults := .reset
  link := .reset
  out := .reset
  pending := []

/-- Why a step could stop with a fault. The specification gives every command an effect in every state, so no command raises
one: safe. -/
inductive Fault where
  /-- Raised by no command (safe): kept so that the type the host asks for is a closed inductive with a name. -/
  | unreachable
  deriving DecidableEq, Repr

/-- Why a command could be refused. -/
inductive Refusal where
  /-- Raised by an arm of `exec` whose command has no meaning yet (safe); every arm has one, so no command raises it. -/
  | notModelled (mnemonic : String)
  deriving DecidableEq, Repr

end Sys2Proof.Machine
end

