-- ==== Sys2Proof/Machine/Operands.lean ====
section
/-! DEFINITION. The operand forms: ranges of a window (R3), spans and their bytes, granules and overlay bytes (R5, R114,
R129), the trigger and closing bytes (R31, R59, R105), the parts a transaction is cut into (R144), the assembly of read data
(R138, R139), and the byte order of multi-byte fields. -/

namespace Sys2Proof.Machine

open Sys2Proof

/-! ### Byte order: the lower offset holds the less significant part (0.5) -/

/-- The two bytes of a 16-bit field. -/
def le16 (x : BitVec 16) : List Byte := [x.extractLsb' 0 8, x.extractLsb' 8 8]

/-- The four bytes of a 32-bit field. -/
def le32 (x : BitVec 32) : List Byte :=
  [x.extractLsb' 0 8, x.extractLsb' 8 8, x.extractLsb' 16 8, x.extractLsb' 24 8]

/-- A count as a 16-bit field. -/
def le16Nat (n : Nat) : List Byte := le16 (BitVec.ofNat 16 n)

/-- The 64-bit word of up to eight bytes, the first in bits 7 to 0. -/
def wordOfBytes : List Byte → BitVec 64
  | [] => 0
  | b :: rest => wordOfBytes rest <<< 8 ||| b.setWidth 64

/-- Byte k of a burst. -/
def burstByte (d : Burst) (k : Nat) : Byte := d.extractLsb' (8 * k) 8

/-- Every element of a vector, changed alike. -/
def mapVec {α β : Type} {n : Nat} (f : α → β) (v : Vector α n) : Vector β n := v.mapIdx fun _ x => f x

/-! ### Ports and sets of ports -/

/-- Whether a set of ports holds a port. -/
def hasPort (ps : PortSet) (p : PortId) : Bool := ps.getLsbD p.val

/-- The set with a port added. -/
def addPort (ps : PortSet) (p : PortId) : PortSet := ps ||| (1#4 <<< p.val)

/-- The set with a port removed. -/
def removePort (ps : PortSet) (p : PortId) : PortSet := ps &&& ~~~(1#4 <<< p.val)

/-- The number of ports of a set. -/
def portCount (ps : PortSet) : Nat := ((List.finRange 4).filter fun p => hasPort ps p).length

/-- The requester of a port. -/
def requesterOf (p : PortId) : Requester := ⟨p.val, by omega⟩

/-- The merge engine as a requester (R143). -/
def engineRequester : Requester := 4

/-! ### Windows, banks and ranges (R3) -/

/-- GRANULES as a number. -/
def WindowRec.granuleCount (c : WindowRec) : Nat := c.granules.toNat

/-- BANKS as a number. -/
def WindowRec.bankCount (c : WindowRec) : Nat := c.banks.toNat

/-- Bytes of a bank, and of the window range: GRANULES × 64 (R3). -/
def WindowRec.bytes (c : WindowRec) : Nat := c.granuleCount * Config.granuleBytes

/-- The physical base of bank k: BASE for bank 0, SHADOW[k] for k from 1 to 7 (R3). -/
def WindowRec.bankBase (c : WindowRec) (k : Nat) : Addr :=
  if h : 1 ≤ k ∧ k ≤ 7 then c.shadow[k - 1]'(by omega) else c.base

/-- A range of byte addresses, from `lo` up to and without `hi`. -/
structure Range where
  lo : Nat
  hi : Nat
  deriving DecidableEq, Repr

/-- Two ranges overlap when they share at least one byte address (R17). -/
def Range.overlaps (a b : Range) : Bool := decide (max a.lo b.lo < min a.hi b.hi)

/-- The range of bank k (R3). -/
def WindowRec.range (c : WindowRec) (k : Nat) : Range := ⟨(c.bankBase k).toNat, (c.bankBase k).toNat + c.bytes⟩

/-- The bank indices of a window, lowest first. -/
def WindowRec.bankIds (c : WindowRec) : List BankId := (List.finRange 8).filter fun b => decide (b.val < c.bankCount)

/-- The indices of the shadow ranges of a window: 1 to BANKS − 1 (R3). -/
def WindowRec.shadowIds (c : WindowRec) : List BankId := c.bankIds.filter fun b => decide (0 < b.val)

/-! ### The span of a transaction (R129) -/

/-- The address of the first byte of the span. -/
def firstByte (t : Txn) : Nat := t.addr.toNat

/-- The address of the last byte of the span. -/
def lastByte (t : Txn) : Nat := t.addr.toNat + t.bytes - 1

/-- The span as a range. -/
def spanRange (t : Txn) : Range := ⟨firstByte t, firstByte t + t.bytes⟩

/-- The MALFORMED test: the start address is not a multiple of the beat size, or the first and last bytes lie in different
4 KiB blocks (R129). -/
def malformed (t : Txn) : Bool :=
  decide (firstByte t % t.beatSize.bytes ≠ 0) || decide (firstByte t / Config.blockBytes ≠ lastByte t / Config.blockBytes)

/-- The low 12 bits of the start address (R131). -/
def lowAddress (t : Txn) : Nat := firstByte t % Config.blockBytes

/-- The span touches bank k's range. -/
def touchesRange (t : Txn) (c : WindowRec) (k : Nat) : Bool := (spanRange t).overlaps (c.range k)

/-- The span lies wholly within the window range. -/
def withinWindow (t : Txn) (c : WindowRec) : Bool :=
  decide ((c.range 0).lo ≤ firstByte t) && decide (lastByte t < (c.range 0).hi)

/-- The window offset of the first byte of the span (0.5). -/
def startOffset (c : WindowRec) (t : Txn) : Nat := firstByte t - c.base.toNat

/-- The granule of the start address (R131, R136, R167). -/
def startGranule (c : WindowRec) (t : Txn) : Nat := startOffset c t / Config.granuleBytes

/-- The granules the span touches, in increasing order (R5). -/
def granulesTouched (c : WindowRec) (t : Txn) : List Nat :=
  let g0 := startOffset c t / Config.granuleBytes
  let g1 := (startOffset c t + t.bytes - 1) / Config.granuleBytes
  List.range' g0 (g1 + 1 - g0)

/-- The span includes a byte at offsets 0 to 63 (R51). -/
def touchesGranuleZero (c : WindowRec) (t : Txn) : Bool := decide (startOffset c t < Config.granuleBytes)

/-- The span includes the byte at window offset o. -/
def spanHas (c : WindowRec) (t : Txn) (o : Nat) : Bool :=
  decide (startOffset c t ≤ o) && decide (o < startOffset c t + t.bytes)

/-- Window offset o is an overlay byte (R114). -/
def isOverlayByte (c : WindowRec) (o : Nat) : Bool := c.overlay && decide (o < Config.overlayBytes)

/-- The span lies wholly within the overlay bytes (R32, R62). -/
def overlayOnly (c : WindowRec) (t : Txn) : Bool :=
  c.overlay && decide (startOffset c t + t.bytes ≤ Config.overlayBytes)

/-- The write stores the byte at window offset o: the offset is in its span and its enable is set (R5). -/
def storesOffset (c : WindowRec) (t : Txn) (o : Nat) : Bool :=
  spanHas c t o && t.wen.getLsbD (o - startOffset c t)

/-- The offset of the window's last byte (0.5). -/
def WindowRec.lastOffset (c : WindowRec) : Nat := c.bytes - 1

/-- The trigger test of a producer write (R31). -/
def isTrigger (c : WindowRec) (t : Txn) : Bool :=
  match c.trigger with
  | .atEnd => storesOffset c t c.lastOffset
  | .atHead => storesOffset c t 0

/-- The write stores at least one non-overlay byte into granule g (R34). -/
def coversGranule (c : WindowRec) (t : Txn) (g : Nat) : Bool :=
  (List.range t.bytes).any fun i =>
    t.wen.getLsbD i && decide ((startOffset c t + i) / Config.granuleBytes = g) && !isOverlayByte c (startOffset c t + i)

/-- The granules into which the write stores at least one non-overlay byte (R34). -/
def granulesCovered (c : WindowRec) (t : Txn) : List Nat := (granulesTouched c t).filter (coversGranule c t)

/-! ### COVER as a set held in increasing order (0.5, R34) -/

/-- The set with a granule added. -/
def insertGranule (g : Nat) : List Nat → List Nat
  | [] => [g]
  | h :: rest => if g < h then g :: h :: rest else if g = h then h :: rest else h :: insertGranule g rest

/-- The set with several granules added. -/
def insertGranules (gs : List Nat) (cover : List Nat) : List Nat := gs.foldl (fun acc g => insertGranule g acc) cover

/-- The granules of a window that a set does not hold, in increasing order (R38). -/
def uncovered (c : WindowRec) (cover : List Nat) : List Nat :=
  (List.range c.granuleCount).filter fun g => !cover.contains g

/-- The fill length of a message: the highest covered granule plus one, and 1 when none is covered (R98). -/
def fillLength (cover : List Nat) : Nat := match cover with
  | [] => 1
  | g :: gs => gs.foldl max g + 1

/-! ### Sources and parts (R4, R139, R144) -/

/-- Where a byte of a read comes from (R139). -/
inductive Source where
  | bank (b : BankId)
  | pattern
  | overlay
  deriving DecidableEq, Repr

/-- A maximal run of consecutive beats named to one bank: its first beat, its number of beats, the bank (R144). -/
structure Run where
  first : Nat
  count : Nat
  bank : BankId
  deriving DecidableEq, Repr

/-- The runs of a list of beat sources, the first of which is beat number `i`. -/
def runsFrom : Nat → List Source → List Run
  | _, [] => []
  | i, .bank b :: rest =>
    match runsFrom (i + 1) rest with
    | [] => [⟨i, 1, b⟩]
    | r :: rs => if r.bank = b ∧ r.first = i + 1 then ⟨i, r.count + 1, b⟩ :: rs else ⟨i, 1, b⟩ :: r :: rs
  | i, .pattern :: rest => runsFrom (i + 1) rest
  | i, .overlay :: rest => runsFrom (i + 1) rest

/-- The window offset of beat i. -/
def beatOffset (c : WindowRec) (t : Txn) (i : Nat) : Nat := startOffset c t + i * t.beatSize.bytes

/-- The source of each beat of a read: the source of its first byte, since a beat lies wholly within one source (R144). -/
def beatSources (c : WindowRec) (t : Txn) (src : Nat → Source) : List Source :=
  (List.range (t.burst.val + 1)).map fun i => src (beatOffset c t i)

/-- The part of a window READ that a run of beats makes (R133, R144). -/
def readPart (p : PortId) (w : WinId) (c : WindowRec) (serial : Nat) (t : Txn) (r : Run) : MemReq where
  owner := requesterOf p
  ref := .entry serial
  window := some w
  bank := some r.bank
  kind := .read
  offset := BitVec.ofNat 40 (beatOffset c t r.first)
  beatSize := t.beatSize
  burst := Fin.ofNat 16 (r.count - 1)
  wdata := 0
  wen := 0
  pos := r.first * t.beatSize.bytes

/-- The parts of a window READ, in increasing address order (R133, R144). -/
def readParts (p : PortId) (w : WinId) (c : WindowRec) (serial : Nat) (t : Txn) (src : Nat → Source) : List MemReq :=
  (runsFrom 0 (beatSources c t src)).map (readPart p w c serial t)

/-- The byte enables of a window WRITE as it goes to memory: those of overlay bytes cleared, all others kept (R30, R144). -/
def enablesWithoutOverlay (c : WindowRec) (t : Txn) : Enables :=
  if c.overlay then t.wen &&& (BitVec.allOnes 128 <<< (Config.overlayBytes - startOffset c t)) else t.wen

/-- The one part of a window WRITE that goes to memory: the whole span (R144). -/
def writePart (p : PortId) (w : WinId) (c : WindowRec) (b : BankId) (serial : Nat) (t : Txn) : MemReq where
  owner := requesterOf p
  ref := .entry serial
  window := some w
  bank := some b
  kind := .write
  offset := BitVec.ofNat 40 (startOffset c t)
  beatSize := t.beatSize
  burst := t.burst
  wdata := t.wdata
  wen := enablesWithoutOverlay c t
  pos := 0

/-- The one part of a pass-through transaction: the transaction unchanged (R132, R144). -/
def passPart (p : PortId) (serial : Nat) (t : Txn) : MemReq where
  owner := requesterOf p
  ref := .entry serial
  window := none
  bank := none
  kind := t.kind
  offset := t.addr
  beatSize := t.beatSize
  burst := t.burst
  wdata := t.wdata
  wen := t.wen
  pos := 0

/-- DATA of a read at its dispatch: pattern and overlay bytes captured then; a byte still to come from memory stands as 0x00
until its part completes (R133, R139). -/
def initialData (c : WindowRec) (t : Txn) (src : Nat → Source) (descriptor : List Byte) : List Byte :=
  (List.range t.bytes).map fun i =>
    match src (startOffset c t + i) with
    | .bank _ => 0
    | .pattern => c.fillbyte
    | .overlay => descriptor.getD (startOffset c t + i) 0

/-- DATA of a pass-through read at its dispatch: every byte still to come from memory. -/
def noData (t : Txn) : List Byte := List.replicate t.bytes 0

/-- DATA after a part of `n` bytes at place `pos` of the span has returned `rdata` (R138). -/
def placeBytes (pos n : Nat) (rdata : Burst) (data : List Byte) : List Byte :=
  data.mapIdx fun i old => if pos ≤ i ∧ i < pos + n then burstByte rdata (i - pos) else old

/-- Beat i of a response to a READ on the 64-bit data path: the bytes of the beat at lane (address modulo 8), and 0x00 in
every other lane. R139 gives 0x00 to the bytes outside the span. PRESUMED (log 6): the lane of a byte. DESIGN CHOICE (log 23): 0x00
also in the lanes of a beat narrower than 8 bytes whose addresses lie in the span but in another beat. -/
def responseBeat (t : Txn) (data : List Byte) (i : Nat) : BitVec 64 :=
  let a := firstByte t + i * t.beatSize.bytes
  wordOfBytes ((List.range 8).map fun lane =>
    let x := a / 8 * 8 + lane
    if a ≤ x ∧ x < a + t.beatSize.bytes then data.getD (x - firstByte t) 0 else 0)

end Sys2Proof.Machine
end

