-- ==== Sys2Proof/Machine/Ops.lean ====
section
/-! DEFINITION. The named operations on the state that the commands share: reading and changing a window controller, a claim
record, a bank record, a port's entries; recording a fault (R168), sending a release event (R135), handing over a request
(R143), arming a deadline (R158), counting. Each changes the one block it names. -/

namespace Sys2Proof.Machine

open Sys2Proof

/-! ### Window controllers -/

/-- The window record in force: the staged one (R2). -/
def State.cfg (s : State) (w : WinId) : WindowRec := s.link.staged[w]

/-- A window controller. -/
def State.win (s : State) (w : WinId) : WinCtl := s.windows[w]

/-- A change of one window controller. -/
def State.modWin (s : State) (w : WinId) (f : WinCtl → WinCtl) : State :=
  { s with windows := s.windows.set w.val (f s.windows[w]) }

/-- A claim record of a window. -/
def State.claim (s : State) (w : WinId) (p : PortId) : Claim := (s.win w).claims[p]

/-- A change of one claim record. -/
def WinCtl.modClaim (x : WinCtl) (p : PortId) (f : Claim → Claim) : WinCtl :=
  { x with claims := x.claims.set p.val (f x.claims[p]) }

/-- A change of one claim record of a window. -/
def State.modClaim (s : State) (w : WinId) (p : PortId) (f : Claim → Claim) : State := s.modWin w fun x => x.modClaim p f

/-- A change of the producer record of a window. -/
def State.modProd (s : State) (w : WinId) (f : ProducerRec → ProducerRec) : State :=
  s.modWin w fun x => { x with prod := f x.prod }

/-- REFUSALS of a window rises by one (R174). -/
def State.countRefusal (s : State) (w : WinId) : State := s.modWin w fun x => { x with refusals := x.refusals + 1 }

/-- EXPIRIES of a window rises by one (R175). -/
def State.countExpiry (s : State) (w : WinId) : State := s.modWin w fun x => { x with expiries := x.expiries + 1 }

/-- DROPS of a window rises by one (R173). -/
def State.countDrop (s : State) (w : WinId) : State := s.modWin w fun x => { x with drops := x.drops + 1 }

/-- COMMITS of a window rises by one (R173). -/
def State.countCommit (s : State) (w : WinId) : State := s.modWin w fun x => { x with commits := x.commits + 1 }

/-- OUTSTANDING rises by one at a hand-over (R13). -/
def State.opStarted (s : State) (w : WinId) : State := s.modWin w fun x => { x with outstanding := x.outstanding + 1 }

/-- OUTSTANDING falls by one at a completion (R13). -/
def State.opEnded (s : State) (w : WinId) : State := s.modWin w fun x => { x with outstanding := x.outstanding - 1 }

/-- SUSPENDING, RESTARTING and RETIRING are the draining states (R14). -/
def Life.draining : Life → Bool
  | .suspending => true
  | .restarting => true
  | .retiring => true
  | .off => false
  | .active => false
  | .suspended => false

/-- The windows that are not OFF, lowest first. -/
def State.liveWindows (s : State) : List WinId := (List.finRange 16).filter fun w => decide ((s.win w).life ≠ .off)

/-! ### Sequence numbers and saturating counts -/

/-- The sequence number after one: from 65535 to 1 (R11). -/
def nextSeq (x : SeqNum) : SeqNum := if x = BitVec.allOnes 16 then 1 else x + 1

/-- A count that stops at 255 (R40, R102, R168). -/
def satSucc (x : Byte) : Byte := if x = BitVec.allOnes 8 then x else x + 1

/-! ### Bank records -/

/-- The pool record that describes a bank of a window: the one whose OWNER names it (R8, R10). -/
def State.recordOf (s : State) (w : WinId) (b : BankId) : Option RecId :=
  (List.finRange 48).find? fun i => decide (s.pool[i].owner = some (w, b))

/-- The record of a bank of a window. A bank no record describes reads as an unowned record. -/
def State.bank (s : State) (w : WinId) (b : BankId) : BankRec :=
  match s.recordOf w b with
  | some i => s.pool[i]
  | none => .unowned

/-- A change of the record at a place of the pool. -/
def modRecord (pool : Vector BankRec 48) (i : Option RecId) (f : BankRec → BankRec) : Vector BankRec 48 :=
  match i with
  | some i => pool.set i.val (f pool[i])
  | none => pool

/-- A change of the record of one bank of a window; OWNER and PBASE stay (R10). -/
def State.modBank (s : State) (w : WinId) (b : BankId) (f : BankRec → BankRec) : State :=
  { s with pool := modRecord s.pool (s.recordOf w b) fun r => { f r with owner := r.owner, pbase := r.pbase } }

/-- A bank takes a state. -/
def State.setBankState (s : State) (w : WinId) (b : BankId) (x : BankState) : State :=
  s.modBank w b fun r => { r with state := x }

/-- The lowest-index bank of a window in a state. -/
def State.findBank (s : State) (w : WinId) (x : BankState) : Option BankId :=
  (s.cfg w).bankIds.find? fun b => decide ((s.bank w b).state = x)

/-- The lowest-index FREE bank (R29). -/
def State.firstFree (s : State) (w : WinId) : Option BankId := s.findBank w .free

/-- The CURRENT bank (R25). -/
def State.currentBank (s : State) (w : WinId) : Option BankId := s.findBank w .current

/-- The number of FREE banks of a window (R124). -/
def State.freeCount (s : State) (w : WinId) : Nat :=
  ((s.cfg w).bankIds.filter fun b => decide ((s.bank w b).state = .free)).length

/-- The free records of the pool, lowest first (R8). -/
def State.freeRecords (s : State) : List RecId := (List.finRange 48).filter fun i => decide (s.pool[i].owner = none)

/-- Bank `b` of a window takes the lowest-numbered free record, with the initial values of R9 (R10). -/
def State.takeRecord (s : State) (w : WinId) (b : BankId) : State :=
  { s with pool := modRecord s.pool s.freeRecords.head? fun _ => BankRec.initial (some (w, b)) ((s.cfg w).bankBase b.val) }

/-- ENABLE takes the BANKS lowest-numbered free records, the lowest for bank 0 (R10). -/
def State.takeRecords (s : State) (w : WinId) : State := (s.cfg w).bankIds.foldl (fun s b => s.takeRecord w b) s

/-- Whether a record is owned by a window. -/
def BankRec.ownedBy (r : BankRec) (w : WinId) : Bool :=
  match r.owner with
  | some (x, _) => decide (x = w)
  | none => false

/-- Every bank record of a window takes the initial values of R9; owner and physical base stay (R21). -/
def State.reinitBanks (s : State) (w : WinId) : State :=
  { s with pool := mapVec (fun r => if r.ownedBy w then BankRec.initial r.owner r.pbase else r) s.pool }

/-- Every bank record of a window returns to the pool: OWNER none (R8, R10). -/
def State.freeBanks (s : State) (w : WinId) : State :=
  { s with pool := mapVec (fun r => if r.ownedBy w then { r with owner := none } else r) s.pool }

/-! ### Ports and their entries -/

/-- A port unit. -/
def State.port (s : State) (p : PortId) : PortUnit := s.ports[p]

/-- A change of one port's accepted list. -/
def State.modEntries (s : State) (p : PortId) (f : List Entry → List Entry) : State :=
  { s with ports := s.ports.set p.val { s.ports[p] with entries := f s.ports[p].entries } }

/-- A change of the first element that meets a test. -/
def modFirst {α : Type} (test : α → Bool) (f : α → α) : List α → List α
  | [] => []
  | x :: rest => if test x then f x :: rest else x :: modFirst test f rest

/-- The entry is WAITING. -/
def Entry.isWaiting (e : Entry) : Bool := decide (e.state = .waiting)

/-- The entry is HELD. -/
def Entry.isHeld (e : Entry) : Bool := decide (e.state = .held)

/-- The entry is HELD by a window. -/
def Entry.isHeldBy (w : WinId) (e : Entry) : Bool := decide (e.state = .held) && decide (e.holdwin = some w)

/-- The HELD entry of a port, if it has one (R126). -/
def State.heldEntry (s : State) (p : PortId) : Option Entry := (s.port p).entries.find? Entry.isHeld

/-- The entry answered with a code and, for a READ, data; its hold, if any, is over (R133, R136, R138). -/
def Entry.answer (code : Code) (data : List Byte) (e : Entry) : Entry :=
  { e with state := .answered, code := some code, data := data, holdwin := none, holddl := none }

/-- A release event reaches an entry held by the window: WAITING again, its hold deadline cancelled (R135). -/
def Entry.release (w : WinId) (e : Entry) : Entry :=
  if e.isHeldBy w then { e with state := .waiting, holdwin := none, holddl := none } else e

/-- A release event from a window reaches a port (R135). -/
def State.releaseEvent (s : State) (w : WinId) (p : PortId) : State := s.modEntries p fun es => es.map (Entry.release w)

/-! ### Deadlines (R158) -/

/-- The due value of a deadline armed now with limit L: S + L modulo 2^32. -/
def State.due (s : State) (limit : BitVec 16) : Stamp := s.time.stamp + limit.setWidth 32

/-- A deadline whose limit 0 means that it is not armed. -/
def State.armed (s : State) (limit : BitVec 16) : Option Stamp := if limit = 0 then none else some (s.due limit)

/-- A deadline is due: it is armed and its due value equals the count (R159). -/
def State.isDue (s : State) (deadline : Option Stamp) : Bool := decide (deadline = some s.time.stamp)

/-! ### Fault records (R167, R168) -/

/-- The code of a fault kind (R167). -/
def FaultKind.code : FaultKind → Nat
  | .memWriteError => 1
  | .memReadError => 2
  | .mergeError => 3
  | .droppedPoison => 4
  | .droppedPartial => 5
  | .openAbandoned => 6
  | .claimExpired => 7
  | .holdExpired => 8
  | .queueFull => 9
  | .foreign => 10
  | .malformed => 11
  | .shadowAccess => 12
  | .straddle => 13

/-- The enable that filters a record: kinds 1 to 10 by FMASK of the record's window, kinds 11 to 13 by the global mask, whatever
window the record names (R167). A window-level record always names its window. -/
def State.faultEnabled (s : State) (k : FaultKind) (w : Option WinId) : Bool :=
  match k with
  | .malformed => s.faults.mask.getLsbD 0
  | .shadowAccess => s.faults.mask.getLsbD 1
  | .straddle => s.faults.mask.getLsbD 2
  | .memWriteError | .memReadError | .mergeError | .droppedPoison | .droppedPartial | .openAbandoned | .claimExpired
  | .holdExpired | .queueFull | .foreign =>
    match w with
    | some w => (s.cfg w).fmask.getLsbD (k.code - 1)
    | none => false

/-- A record whose enable is on joins the tail of a queue of fewer than 16 records, and is otherwise dropped with OVERRUN
incremented, stopping at 255 (R168). -/
def FaultUnit.take (u : FaultUnit) (r : FaultRec) : FaultUnit :=
  if u.queue.length < Config.faultMax then { u with queue := u.queue ++ [r] } else { u with overrun := satSucc u.overrun }

/-- An offer of a fault record, with the stamp of this event (R157, R168). -/
def State.offer (s : State) (k : FaultKind) (w : Option WinId) (p : Option PortId) (loc : Option Nat) : State :=
  { s with faults := if s.faultEnabled k w then s.faults.take ⟨k, w, p, loc, s.time.stamp⟩ else s.faults }

/-! ### Requests (R143) -/

/-- Requests join the tail of a requester's queue, in order. -/
def State.handOver (s : State) (r : Requester) (parts : List MemReq) : State :=
  { s with mport := { s.mport with queues := s.mport.queues.set r.val (s.mport.queues[r] ++ parts) } }

end Sys2Proof.Machine
end

