-- ==== Sys2Proof/Machine/Flags.lean ====
section
/-! DEFINITION. What the part computes for others to see: the consumer and producer descriptors with their FLAGS (chapter 6),
the ready lines and FLT (10.1, R169). -/

namespace Sys2Proof.Machine

open Sys2Proof

/-- A byte of flags, the first in bit 0. -/
def flagByte (flags : List Bool) : Byte := flags.foldr (fun b acc => acc <<< 1 ||| (if b then 1#8 else 0#8)) 0

/-- A small number as a byte. -/
def byteOf (n : Nat) : Byte := BitVec.ofNat 8 n

/-! ### The consumer descriptor (R119 to R121) -/

/-- The fields of the consumer descriptor that depend on what is read (R119). -/
structure ConsumerView where
  seq : SeqNum
  length : Nat
  written : Nat
  queued : Nat
  deliveries : Byte
  missed : Byte
  empty : Bool
  expired : Bool
  merged : Bool
  patterned : Bool
  stamp : Stamp
  deriving DecidableEq, Repr

/-- The 16 bytes of the consumer descriptor (R119): PORT and WINDOW name the port that read and the window. -/
def consumerBytes (w : WinId) (p : PortId) (v : ConsumerView) : List Byte :=
  le16 v.seq ++ le16Nat v.length ++ le16Nat v.written
    ++ [byteOf v.queued, v.deliveries, v.missed, flagByte [v.empty, v.expired, v.merged, v.patterned]]
    ++ le32 v.stamp ++ [byteOf p.val, byteOf w.val]

/-- The fields for a read served from a claim on bank b: R120 in SNAPSHOT, R121 in QUEUE. -/
def State.claimView (s : State) (w : WinId) (p : PortId) (b : BankId) : ConsumerView :=
  let r := s.bank w b
  match (s.cfg w).mode with
  | .snapshot =>
    { seq := r.seq, length := r.length, written := r.written, queued := 1, deliveries := 0
      missed := (s.claim w p).claimmissed, empty := false, expired := (s.claim w p).claimexpired
      merged := decide (0 < r.merged), patterned := r.patterned, stamp := r.stamp }
  | .queue =>
    { seq := r.seq, length := r.length, written := r.written, queued := (s.win w).order.length, deliveries := r.deliveries
      missed := 0, empty := false, expired := (s.claim w p).claimexpired
      merged := false, patterned := false, stamp := r.stamp }

/-- The fields for an empty read: LENGTH is GRANULES in SNAPSHOT (R120) and 0 in QUEUE (R121). -/
def WindowRec.emptyView (c : WindowRec) : ConsumerView where
  seq := 0
  length := match c.mode with
    | .snapshot => c.granuleCount
    | .queue => 0
  written := 0
  queued := 0
  deliveries := 0
  missed := 0
  empty := true
  expired := false
  merged := false
  patterned := false
  stamp := 0

/-- The descriptor of a read served from a claim on bank b. -/
def State.consumerDescriptor (s : State) (w : WinId) (p : PortId) (b : BankId) : List Byte :=
  consumerBytes w p (s.claimView w p b)

/-- The descriptor of an empty read. -/
def State.emptyDescriptor (s : State) (w : WinId) (p : PortId) : List Byte := consumerBytes w p (s.cfg w).emptyView

/-! ### The producer descriptor (R123, R124) -/

/-- The state code of a producer bank (R123); no other bank state is a producer bank's. -/
def BankState.producerCode : BankState → Nat
  | .filling => 1
  | .committing => 2
  | .merging => 3
  | .expiring => 4
  | .free => 0
  | .current => 0
  | .held => 0
  | .queued => 0

/-- The state code of the window's producer bank, 0 for none (R123). -/
def State.producerCode (s : State) (w : WinId) : Nat :=
  match (s.win w).prod.bank with
  | some b => (s.bank w b).state.producerCode
  | none => 0

/-- QUEUED of the producer descriptor: 1 or 0 for a CURRENT bank or none in SNAPSHOT, the length of the order list in QUEUE
(R124). -/
def State.queuedCount (s : State) (w : WinId) : Nat :=
  match (s.cfg w).mode with
  | .snapshot => if (s.currentBank w).isSome then 1 else 0
  | .queue => (s.win w).order.length

/-- The size of COVER of the producer bank, 0 when there is none (R124). -/
def State.coveredCount (s : State) (w : WinId) : Nat :=
  match (s.win w).prod.bank with
  | some b => (s.bank w b).cover.length
  | none => 0

/-- The 16 bytes of the producer descriptor (R123, R124). -/
def State.producerDescriptor (s : State) (w : WinId) : List Byte :=
  let r := (s.win w).prod
  le16 r.nextseq ++ le16Nat (s.coveredCount w)
    ++ [byteOf (s.freeCount w), byteOf (s.queuedCount w), byteOf (s.producerCode w), flagByte [r.lastdrop, r.lastrefused]]
    ++ le32 r.laststamp ++ le32 s.time.stamp

/-! ### Ready lines (R163 to R165) and FLT (R169) -/

/-- The consumer-ready condition of a port in a window (R164). -/
def State.consumerReady (s : State) (w : WinId) (p : PortId) : Bool :=
  match (s.cfg w).mode with
  | .snapshot =>
    match s.currentBank w with
    | some b => decide ((s.bank w b).seq ≠ (s.claim w p).lastseq)
    | none => false
  | .queue => decide ((s.win w).order ≠ []) && decide ((s.claim w p).bank = none)

/-- The producer-ready condition of a window (R165). -/
def State.producerReady (s : State) (w : WinId) : Bool :=
  match (s.cfg w).mode, (s.win w).prod.bank with
  | .snapshot, none => true
  | .snapshot, some b => decide ((s.bank w b).state = .filling)
  | .queue, none => (s.firstFree w).isSome
  | .queue, some b => decide ((s.bank w b).state = .filling)

/-- The term a window contributes to the ready line of a port (R163). -/
def State.readyTerm (s : State) (w : WinId) (p : PortId) : Bool :=
  decide ((s.win w).life = .active)
    && ((decide ((s.cfg w).producer = p) && (s.cfg w).rdyProducer && s.producerReady w)
      || (hasPort (s.cfg w).consumers p && (s.cfg w).rdyConsumer && s.consumerReady w p))

/-- The level of a ready line: deasserted while RSTn is low, else the OR of the sixteen windows' terms (R163). -/
def State.rdy (s : State) (p : PortId) : Bool := s.rstn && (List.finRange 16).any fun w => s.readyTerm w p

/-- The level of FLT: asserted while the fault queue holds a record, deasserted while RSTn is low (R169). -/
def State.flt (s : State) : Bool := s.rstn && decide (s.faults.queue ≠ [])

end Sys2Proof.Machine
end

