-- ==== Sys2Proof/Machine/Merge.lean ====
section
/-! DEFINITION. The merge engine's own work: the job list, the operations a head job requests, the abort of a window's job
(chapter 4). What a finished job does to its window stands in Session.lean and Completion.lean. -/

namespace Sys2Proof.Machine

open Sys2Proof

/-- A change of the job list. -/
def State.modJobs (s : State) (f : List Job → List Job) : State :=
  { s with engine := { s.engine with jobs := f s.engine.jobs } }

/-- The 64 bytes of a granule enter the granule buffer (R70, R74). -/
def State.setBuffer (s : State) (x : GranuleBytes) : State := { s with engine := { s.engine with buffer := x } }

/-- The physical address of granule g of a bank: PBASE plus 64 × g (R73, R74). -/
def State.granuleAddr (s : State) (w : WinId) (b : BankId) (g : Nat) : Addr :=
  (s.bank w b).pbase + BitVec.ofNat 40 (Config.granuleBytes * g)

/-- An operation of the merge engine: eight beats of 8 bytes at the start of a granule (R143, R144). -/
def engineReq (w : WinId) (kind : Kind) (addr : Addr) (wdata : GranuleBytes) : MemReq where
  owner := engineRequester
  ref := .job w
  window := some w
  bank := none
  kind := kind
  offset := addr
  beatSize := .b8
  burst := 7
  wdata := wdata.setWidth 1024
  wen := match kind with
    | .read => 0
    | .write => (BitVec.allOnes 64).setWidth 128
  pos := 0

/-- The engine requests an operation for a job's window, which counts one in its OUTSTANDING (R13, R72). -/
def State.requestOp (s : State) (w : WinId) (r : MemReq) : State := (s.opStarted w).handOver engineRequester [r]

/-- The 64 bytes of a pattern write (R75). -/
def patternGranule (fill : Byte) : GranuleBytes := BitVec.replicate 64 fill

/-- The head job starts on the first granule of its PENDING: a read with PHASE READING for a bank source, a pattern write with
PHASE WRITING for PATTERN (R72, R73, R75, R76). A job's PENDING is not empty here (R70). -/
def State.startHead (s : State) : State :=
  match s.engine.jobs with
  | [] => s
  | j :: rest =>
    match j.pending, j.source with
    | [], _ => s
    | g :: _, some b =>
      (s.modJobs fun _ => { j with phase := .reading } :: rest).requestOp j.window
        (engineReq j.window .read (s.granuleAddr j.window b g) 0)
    | g :: _, none =>
      (s.modJobs fun _ => { j with phase := .writing } :: rest).requestOp j.window
        (engineReq j.window .write (s.granuleAddr j.window j.dest g) (patternGranule (s.cfg j.window).fillbyte))

/-- A job joins the list at its tail, and starts at once if the list was empty (R71, R72). -/
def State.appendJob (s : State) (j : Job) : State :=
  match s.engine.jobs with
  | [] => (s.modJobs fun _ => [j]).startHead
  | _ :: _ => s.modJobs fun js => js ++ [j]

/-- The window's job is aborted: a running job, the head, is marked ABORTED; a waiting one is removed (R81, R82). -/
def abortJob (w : WinId) : List Job → List Job
  | [] => []
  | j :: rest =>
    (if j.window = w then { j with aborted := true } else j) :: rest.filter fun k => decide (k.window ≠ w)

end Sys2Proof.Machine
end

