-- ==== Sys2Proof/Machine/Session.lean ====
section
/-! DEFINITION. The producer's side of a window: session open, steering and the trigger (R28 to R33, R91 to R94), the commit
decision (R36, R96), publication, commit, drop and abandonment (R37 to R40, R43, R44, R97 to R99), the producer's reads (R46,
R47, R112). -/

namespace Sys2Proof.Machine

open Sys2Proof

/-- What a dispatched transaction receives (R130, R133): an answer at once, memory parts, or a hold. -/
inductive Treatment where
  /-- ANSWERED in this event with a code and, for a READ, data. -/
  | answered (code : Code) (data : List Byte)
  /-- DISPATCHED with memory parts: DATA so far, the bank a producer write keeps, the mark of the trigger. -/
  | sent (parts : List MemReq) (data : List Byte) (dest : Option BankId) (trigger : Bool)
  /-- HELD by a window. -/
  | held (w : WinId)
  deriving DecidableEq, Repr

/-- A controller refusal: REFUSED and counted in REFUSALS, no fault (R174). -/
def State.refuse (s : State) (w : WinId) : State × Treatment := (s.countRefusal w, .answered .refused [])

/-! ### Ends of a session -/

/-- The MISSED count of a claim record at a publication: it rises when the port is a consumer whose LASTSEQ differs from the
superseded bank's SEQ (R40). -/
def missAt (c : WindowRec) (superseded : SeqNum) (p : PortId) (k : Claim) : Claim :=
  if hasPort c.consumers p ∧ k.lastseq ≠ superseded then { k with missed := satSucc k.missed } else k

/-- The former CURRENT bank leaves CURRENT: HELD if claimed, else FREE; MISSED is counted (R40). -/
def State.supersede (s : State) (w : WinId) : State :=
  match s.currentBank w with
  | none => s
  | some o =>
    let r := s.bank w o
    let s1 := s.modWin w fun x =>
      { x with claims := x.claims.mapIdx fun i k => missAt (s.cfg w) r.seq (Fin.ofNat 4 i) k }
    s1.setBankState w o (if r.holders = 0 then .free else .held)

/-- The producer record after a commit: no producer bank, NEXTSEQ advanced, LASTDROP cleared, LASTSTAMP set (R39, R97, R122). -/
def ProducerRec.committed (now : Stamp) (r : ProducerRec) : ProducerRec :=
  { r with bank := none, opendl := none, nextseq := nextSeq r.nextseq, lastdrop := false, laststamp := now }

/-- A publication: the producer bank becomes CURRENT (R39, R40). -/
def State.publish (s : State) (w : WinId) (b : BankId) : State :=
  let s1 := s.supersede w
  let s2 := s1.modBank w b fun r =>
    { r with state := .current, seq := (s.win w).prod.nextseq, stamp := s.time.stamp
             length := (s.cfg w).granuleCount, written := r.cover.length }
  let s3 := (s2.modProd w (ProducerRec.committed s.time.stamp)).countCommit w
  s3.releaseEvent w (s.cfg w).producer

/-- A QUEUE commit: the producer bank becomes the newest message (R97, R98). -/
def State.queueCommit (s : State) (w : WinId) (b : BankId) : State :=
  let s1 := s.modBank w b fun r =>
    { r with state := .queued, seq := (s.win w).prod.nextseq, stamp := s.time.stamp
             length := fillLength r.cover, written := r.cover.length, deliveries := 0 }
  let s2 := s1.modWin w fun x => { x with order := x.order ++ [b] }
  let s3 := (s2.modProd w (ProducerRec.committed s.time.stamp)).countCommit w
  s3.releaseEvent w (s.cfg w).producer

/-- The session ends without commit: bank FREE, no producer bank, LASTDROP set, DROPS incremented (R37, R43, R44, R99). -/
def State.endSession (s : State) (w : WinId) (b : BankId) : State :=
  ((s.setBankState w b .free).modProd w fun r => { r with bank := none, opendl := none, lastdrop := true }).countDrop w

/-- A drop for a cause that carries a fault of the controller, or none for a merge failure (R37, R99). -/
def State.drop (s : State) (w : WinId) (b : BankId) (cause : Option FaultKind) : State :=
  let s1 := s.endSession w b
  let s2 := match cause with
    | some k => s1.offer k (some w) (some (s.cfg w).producer) none
    | none => s1
  s2.releaseEvent w (s.cfg w).producer

/-- The abandonment when a completion brings WINFLIGHT of an EXPIRING bank to 0 (R44, R99). -/
def State.abandonLate (s : State) (w : WinId) (b : BankId) : State := s.drop w b (some .openAbandoned)

/-- The MERGE decision: the bank becomes MERGING and a job is appended (R38, R70). -/
def State.beginMerge (s : State) (w : WinId) (b : BankId) : State :=
  let job : Job :=
    { window := w, dest := b, source := s.currentBank w, pending := uncovered (s.cfg w) (s.bank w b).cover
      filled := 0, phase := .waiting, aborted := false }
  (s.setBankState w b .merging).appendJob job

/-- The commit decision of a SNAPSHOT window (R36). -/
def State.snapshotDecision (s : State) (w : WinId) (b : BankId) : State :=
  let r := s.bank w b
  if r.poison then s.drop w b (some .droppedPoison)
  else if uncovered (s.cfg w) r.cover = [] then s.publish w b
  else
    match (s.cfg w).partialPolicy with
    | .discard => s.drop w b (some .droppedPartial)
    | .merge => s.beginMerge w b

/-- The commit decision of a QUEUE window: from POISON alone (R96). -/
def State.queueDecision (s : State) (w : WinId) (b : BankId) : State :=
  if (s.bank w b).poison then s.drop w b (some .droppedPoison) else s.queueCommit w b

/-- The commit decision at the trigger's completion. -/
def State.commitDecision (s : State) (w : WinId) (b : BankId) : State :=
  match (s.cfg w).mode with
  | .snapshot => s.snapshotDecision w b
  | .queue => s.queueDecision w b

/-! ### Session open and the steering of writes -/

/-- A session opens in a bank (R29). -/
def State.openSession (s : State) (w : WinId) (b : BankId) : State :=
  let s1 := s.modBank w b fun r =>
    { r with state := .filling, session := r.session + 1, cover := [], poison := false, merged := 0, patterned := false }
  s1.modProd w fun r => { r with bank := some b, opendl := s.armed (s.cfg w).openlim }

/-- The trigger is dispatched: COMMITTING, and OPENDL cancelled (R31). -/
def State.trigger (s : State) (w : WinId) (b : BankId) : State :=
  (s.setBankState w b .committing).modProd w fun r => { r with opendl := none }

/-- The trigger test at the dispatch of a write to a FILLING bank (R31). -/
def State.testTrigger (s : State) (w : WinId) (b : BankId) (t : Txn) : State :=
  if isTrigger (s.cfg w) t then s.trigger w b else s

/-- A producer write has been steered into a bank: LASTREFUSED is cleared (R27, R89). -/
def State.writeSteered (s : State) (w : WinId) : State := s.modProd w fun r => { r with lastrefused := false }

/-- A producer write that goes to memory: LASTREFUSED cleared, OUTSTANDING and WINFLIGHT up by one, one part (R27, R30, R89). -/
def State.steerWrite (s : State) (w : WinId) (p : PortId) (b : BankId) (e : Entry) : State × Treatment :=
  let s1 := (s.testTrigger w b e.txn).writeSteered w
  let s2 := (s1.opStarted w).modBank w b fun r => { r with winflight := r.winflight + 1 }
  (s2, .sent [writePart p w (s.cfg w) b e.serial e.txn] [] (some b) (isTrigger (s.cfg w) e.txn))

/-- A producer write wholly within the overlay bytes: OKAY without memory. Where it is not the trigger it has no further effect
(R32; log 8 reads LASTREFUSED with it). The trigger is a write steered into the bank (R28, R31, R91) and clears LASTREFUSED; its
completion is the moment WINFLIGHT is 0, which may be its dispatch (R32). -/
def State.overlayWrite (s : State) (w : WinId) (b : BankId) (t : Txn) : State × Treatment :=
  if isTrigger (s.cfg w) t then
    let s1 := (s.trigger w b).writeSteered w
    (if (s1.bank w b).winflight = 0 then s1.commitDecision w b else s1, .answered .okay [])
  else (s, .answered .okay [])

/-- A producer write handled as a write to a FILLING bank (R28, R91). -/
def State.writeToFilling (s : State) (w : WinId) (p : PortId) (b : BankId) (e : Entry) : State × Treatment :=
  if overlayOnly (s.cfg w) e.txn then s.overlayWrite w b e.txn else s.steerWrite w p b e

/-- A producer write that finds the queue full under FULL = REFUSE (R93). -/
def State.refuseFull (s : State) (w : WinId) : State × Treatment :=
  let s1 := (s.modProd w fun r => { r with lastrefused := true }).countRefusal w
  (s1.offer .queueFull (some w) (some (s.cfg w).producer) none, .answered .refused [])

/-- A producer write with no producer bank and no FREE bank: the full condition of a QUEUE window (R91). A SNAPSHOT window
without a producer bank always has a FREE bank (R26); log 12 says that the model holds the write where one has not. -/
def State.noFreeBank (s : State) (w : WinId) : State × Treatment :=
  match (s.cfg w).mode, (s.cfg w).full with
  | .queue, .refuse => s.refuseFull w
  | .queue, .hold => (s, .held w)
  | .snapshot, _ => (s, .held w)

/-- A producer write dispatched to an ACTIVE window (R28, R91). -/
def State.producerWrite (s : State) (w : WinId) (p : PortId) (e : Entry) : State × Treatment :=
  match (s.win w).prod.bank with
  | some b => if (s.bank w b).state = .filling then s.writeToFilling w p b e else (s, .held w)
  | none =>
    match s.firstFree w with
    | some b => (s.openSession w b).writeToFilling w p b e
    | none => s.noFreeBank w

/-! ### Producer reads -/

/-- The source of the byte at an offset of a producer read in a SNAPSHOT window (R46, R47). -/
def State.snapshotProducerSource (s : State) (w : WinId) (o : Nat) : Source :=
  let background := match s.currentBank w with
    | some b => Source.bank b
    | none => Source.pattern
  if isOverlayByte (s.cfg w) o then .overlay
  else
    match (s.win w).prod.bank with
    | some b => if (s.bank w b).cover.contains (o / Config.granuleBytes) then .bank b else background
    | none => background

/-- The source of the byte at an offset of a producer read in a QUEUE window (R112). -/
def State.queueProducerSource (s : State) (w : WinId) (o : Nat) : Source :=
  if isOverlayByte (s.cfg w) o then .overlay
  else
    match (s.win w).prod.bank with
    | some b => .bank b
    | none => .pattern

/-- The source of the byte at an offset of a producer read. -/
def State.producerSource (s : State) (w : WinId) (o : Nat) : Source :=
  match (s.cfg w).mode with
  | .snapshot => s.snapshotProducerSource w o
  | .queue => s.queueProducerSource w o

/-- A producer read dispatched to an ACTIVE window: never held, never refused; one transaction in OUTSTANDING when it has a
memory part (R46, R47, R112, R125). -/
def State.producerRead (s : State) (w : WinId) (p : PortId) (e : Entry) : State × Treatment :=
  let c := s.cfg w
  let data := initialData c e.txn (s.producerSource w) (s.producerDescriptor w)
  match readParts p w c e.serial e.txn (s.producerSource w) with
  | [] => (s, .answered .okay data)
  | part :: parts => (s.opStarted w, .sent (part :: parts) data none false)

/-! ### The open deadline -/

/-- The open deadline is taken (R43, R44). -/
def State.openExpiry (s : State) (w : WinId) : State :=
  match (s.win w).prod.bank with
  | none => s.modProd w fun r => { r with opendl := none }
  | some b =>
    let s1 := s.countExpiry w
    if (s.bank w b).winflight = 0 then
      (s1.endSession w b).offer .openAbandoned (some w) (some (s.cfg w).producer) none
    else (s1.setBankState w b .expiring).modProd w fun r => { r with opendl := none }

end Sys2Proof.Machine
end

