-- ==== Sys2Proof/Machine/Claims.lean ====
section
/-! DEFINITION. The consumer's side of a window: claim opening, release and expiry, reads and writes, in SNAPSHOT (chapter 3)
and in QUEUE (5.4, 5.5). -/

namespace Sys2Proof.Machine

open Sys2Proof

/-! ### Claim opening, release and expiry -/

/-- The claim record when a claim opens on a bank (R52, R102). -/
def Claim.opened (b : BankId) (seq : SeqNum) (deadline : Option Stamp) (k : Claim) : Claim :=
  { k with bank := some b, lastseq := seq, claimmissed := k.missed, missed := 0, claimexpired := k.expired
           expired := false, claimdl := deadline }

/-- A claim opens on a bank: the port joins HOLDERS in SNAPSHOT (R52), DELIVERIES rises in QUEUE (R102). -/
def State.openClaim (s : State) (w : WinId) (p : PortId) (b : BankId) : State :=
  let s1 := s.modClaim w p (Claim.opened b (s.bank w b).seq (s.armed (s.cfg w).claimlim))
  match (s.cfg w).mode with
  | .snapshot => s1.modBank w b fun r => { r with holders := addPort r.holders p }
  | .queue => s1.modBank w b fun r => { r with deliveries := satSucc r.deliveries }

/-- The claim record when its claim ends: no claim, no deadline, CLOSING and DEFERRED off (R60, R106, R109). -/
def Claim.ended (k : Claim) : Claim := { k with bank := none, claimdl := none, closing := false, deferred := false }

/-- The claimed bank when a SNAPSHOT claim on it ends: the port leaves HOLDERS, and a HELD bank with no holder left becomes
FREE, while a CURRENT bank stays CURRENT until another publication (R60, R66, 2.9). R41 says that a release taken before the
publication leaves the bank FREE; the rules differ on that state, and the model follows R60 (DESIGN CHOICE, log 22). -/
def BankRec.unclaimed (p : PortId) (r : BankRec) : BankRec :=
  let left := removePort r.holders p
  { r with holders := left, state := if r.state = .held ∧ left = 0 then .free else r.state }

/-- A release of a SNAPSHOT claim (R60). -/
def State.releaseSnapshot (s : State) (w : WinId) (p : PortId) : State :=
  let s1 := match (s.claim w p).bank with
    | some b => s.modBank w b (BankRec.unclaimed p)
    | none => s
  (s1.modClaim w p Claim.ended).releaseEvent w p

/-- The head bank leaves the order list and becomes FREE (R106). -/
def State.dequeue (s : State) (w : WinId) : State :=
  match (s.win w).order with
  | [] => s
  | b :: rest => (s.modWin w fun x => { x with order := rest }).setBankState w b .free

/-- A release of a QUEUE claim: the message is delivered (R106). The producer port receives a release event when the window has
no producer bank (R95). -/
def State.releaseQueue (s : State) (w : WinId) (p : PortId) : State :=
  let s1 := (((s.dequeue w).modClaim w p Claim.ended).releaseEvent w p)
  match (s.win w).prod.bank with
  | none => s1.releaseEvent w (s.cfg w).producer
  | some _ => s1

/-- The release of a claim. -/
def State.releaseClaim (s : State) (w : WinId) (p : PortId) : State :=
  match (s.cfg w).mode with
  | .snapshot => s.releaseSnapshot w p
  | .queue => s.releaseQueue w p

/-- The end of a claim by expiry: in SNAPSHOT a release (R64); in QUEUE the message stays at the head and no release event is
sent (R109). EXPIRED is set, EXPIRIES incremented and CLAIM_EXPIRED offered. -/
def State.claimExpiry (s : State) (w : WinId) (p : PortId) : State :=
  let s1 := match (s.cfg w).mode with
    | .snapshot => s.releaseSnapshot w p
    | .queue => s.modClaim w p Claim.ended
  ((s1.modClaim w p fun k => { k with expired := true }).countExpiry w).offer .claimExpired (some w) (some p) none

/-- The claim deadline is taken: an expiry with READS 0, else DEFERRED is set and CLAIMDL becomes none (R64, R65, R109, R110). -/
def State.claimDeadlineTaken (s : State) (w : WinId) (p : PortId) : State :=
  if (s.claim w p).reads = 0 then s.claimExpiry w p
  else s.modClaim w p fun k => { k with deferred := true, claimdl := none }

/-! ### Reads served and empty reads -/

/-- CLOSING is set on a claim. -/
def State.setClosing (s : State) (w : WinId) (p : PortId) : State := s.modClaim w p fun k => { k with closing := true }

/-- The source of the byte at an offset of a SNAPSHOT read served from a claim on bank b (R54). -/
def snapshotClaimSource (c : WindowRec) (b : BankId) (o : Nat) : Source :=
  if isOverlayByte c o then .overlay else .bank b

/-- The source of the byte at an offset of a QUEUE read served from a claim on bank b, whose LENGTH is given (R103). -/
def queueClaimSource (c : WindowRec) (b : BankId) (length : Nat) (o : Nat) : Source :=
  if isOverlayByte c o then .overlay else if o / Config.granuleBytes < length then .bank b else .pattern

/-- The read is closing in SNAPSHOT: its span includes the window's last byte (R59). -/
def closesSnapshot (c : WindowRec) (t : Txn) : Bool := spanHas c t c.lastOffset

/-- The read is closing in QUEUE: its span includes the message's last byte or the window's (R105). -/
def closesQueue (c : WindowRec) (length : Nat) (t : Txn) : Bool :=
  spanHas c t (length * Config.granuleBytes - 1) || spanHas c t c.lastOffset

/-- A served read that goes to memory: OUTSTANDING and READS up by one (R54, R103). -/
def State.sendRead (s : State) (w : WinId) (p : PortId) (parts : List MemReq) (data : List Byte) : State × Treatment :=
  ((s.opStarted w).modClaim w p fun k => { k with reads := k.reads + 1 }, .sent parts data none false)

/-- A read served from a SNAPSHOT claim on bank b, and tested for closing (R54, R59). -/
def State.serveSnapshot (s : State) (w : WinId) (p : PortId) (b : BankId) (e : Entry) : State × Treatment :=
  let c := s.cfg w
  let s1 := if closesSnapshot c e.txn then s.setClosing w p else s
  let data := initialData c e.txn (snapshotClaimSource c b) (s.consumerDescriptor w p b)
  match readParts p w c e.serial e.txn (snapshotClaimSource c b) with
  | [] => (s1, .answered .okay data)
  | part :: parts => s1.sendRead w p (part :: parts) data

/-- A read served from a QUEUE claim on bank b, and tested for closing: with a memory part, or with reads in flight, a closing
read sets CLOSING; without either it releases at once (R103, R105). -/
def State.serveQueue (s : State) (w : WinId) (p : PortId) (b : BankId) (e : Entry) : State × Treatment :=
  let c := s.cfg w
  let length := (s.bank w b).length
  let data := initialData c e.txn (queueClaimSource c b length) (s.consumerDescriptor w p b)
  match readParts p w c e.serial e.txn (queueClaimSource c b length) with
  | [] =>
    if closesQueue c length e.txn then
      if (s.claim w p).reads = 0 then (s.releaseQueue w p, .answered .okay data)
      else (s.setClosing w p, .answered .okay data)
    else (s, .answered .okay data)
  | part :: parts => (if closesQueue c length e.txn then s.setClosing w p else s).sendRead w p (part :: parts) data

/-- A read served from a claim. -/
def State.serve (s : State) (w : WinId) (p : PortId) (b : BankId) (e : Entry) : State × Treatment :=
  match (s.cfg w).mode with
  | .snapshot => s.serveSnapshot w p b e
  | .queue => s.serveQueue w p b e

/-- DATA of an empty read: pattern bytes, and the descriptor in the overlay bytes (R53). -/
def State.emptyData (s : State) (w : WinId) (p : PortId) (t : Txn) : List Byte :=
  initialData (s.cfg w) t (fun o => if isOverlayByte (s.cfg w) o then .overlay else .pattern) (s.emptyDescriptor w p)

/-- A consumer read with no claim and nothing to claim (R53). -/
def State.emptyRead (s : State) (w : WinId) (p : PortId) (e : Entry) : State × Treatment :=
  match (s.cfg w).empty with
  | .pattern => (s, .answered .okay (s.emptyData w p e.txn))
  | .refuse => if overlayOnly (s.cfg w) e.txn then (s, .answered .okay (s.emptyData w p e.txn)) else s.refuse w

/-- A claim opens on a bank and the read that opened it is served, in one event (R52, R102). -/
def State.openAndServe (s : State) (w : WinId) (p : PortId) (b : BankId) (e : Entry) : State × Treatment :=
  (s.openClaim w p b).serve w p b e

/-- A restart: the old claim is released and a claim opens on CURRENT (R56). Once a bank is published the window has a CURRENT
bank while it is ACTIVE (R53); log 12 says what stands where it has none. -/
def State.restart (s : State) (w : WinId) (p : PortId) (e : Entry) : State × Treatment :=
  let s1 := s.releaseSnapshot w p
  match s1.currentBank w with
  | some cur => s1.openAndServe w p cur e
  | none => s1.emptyRead w p e

/-! ### Consumer reads and writes -/

/-- A consumer read dispatched to an ACTIVE SNAPSHOT window: the first case of R51 that fits. -/
def State.snapshotConsumerRead (s : State) (w : WinId) (p : PortId) (e : Entry) : State × Treatment :=
  let k := s.claim w p
  let zero := touchesGranuleZero (s.cfg w) e.txn
  match k.bank with
  | some b =>
    if k.deferred && !k.closing then s.refuse w
    else if k.closing then (s, .held w)
    else if decide ((s.bank w b).state = .held) && zero then
      if k.reads = 0 then s.restart w p e else (s.setClosing w p, .held w)
    else s.serve w p b e
  | none =>
    match s.currentBank w with
    | none => s.emptyRead w p e
    | some cur => if k.expired && !zero then s.refuse w else s.openAndServe w p cur e

/-- A consumer read dispatched to an ACTIVE QUEUE window: the first case of R101 that fits. -/
def State.queueConsumerRead (s : State) (w : WinId) (p : PortId) (e : Entry) : State × Treatment :=
  let k := s.claim w p
  match k.bank with
  | some b =>
    if k.deferred && !k.closing then s.refuse w
    else if k.closing then (s, .held w)
    else s.serve w p b e
  | none =>
    match (s.win w).order with
    | [] => s.emptyRead w p e
    | head :: _ => s.openAndServe w p head e

/-- A consumer read dispatched to an ACTIVE window. -/
def State.consumerRead (s : State) (w : WinId) (p : PortId) (e : Entry) : State × Treatment :=
  match (s.cfg w).mode with
  | .snapshot => s.snapshotConsumerRead w p e
  | .queue => s.queueConsumerRead w p e

/-- A consumer write dispatched to an ACTIVE window: a release without reading when it lies wholly within the overlay bytes,
else REFUSED (R62, R107). -/
def State.consumerWrite (s : State) (w : WinId) (p : PortId) (e : Entry) : State × Treatment :=
  let k := s.claim w p
  if overlayOnly (s.cfg w) e.txn then
    match k.bank with
    | none => s.refuse w
    | some _ =>
      if k.deferred && !k.closing then s.refuse w
      else if k.closing then (s, .answered .okay [])
      else if k.reads = 0 then (s.releaseClaim w p, .answered .okay [])
      else (s.setClosing w p, .answered .okay [])
  else s.refuse w

end Sys2Proof.Machine
end

