-- ==== Sys2Proof/Machine/Drain.lean ====
section
/-! DEFINITION. Drains: the entry to a draining state (R19), the end of a drain (R21), and the long-operation record that
follows them (R181). -/

namespace Sys2Proof.Machine

open Sys2Proof

/-- The producer record cleared, NEXTSEQ and LASTSTAMP kept (R11, R122). -/
def ProducerRec.cleared (r : ProducerRec) : ProducerRec :=
  { r with bank := none, opendl := none, lastdrop := false, lastrefused := false }

/-- A window leaves the long-operation set at its drain completion; when the set empties BUSY turns off and the opcode becomes
0x00 (R181). -/
def Link.drainEnded (l : Link) (w : WinId) : Link :=
  if l.longOp.windows.contains w then
    let left := l.longOp.windows.filter fun x => decide (x ≠ w)
    { l with busy := decide (left ≠ []), longOp := ⟨if left = [] then 0 else l.longOp.opcode, left⟩ }
  else l

/-- The lifecycle state a drain leads to (R14, R21). -/
def Life.afterDrain : Life → Life
  | .suspending => .suspended
  | .restarting => .active
  | .retiring => .off
  | .off => .off
  | .active => .active
  | .suspended => .suspended

/-- The controller's records at the end of a drain: order list empty, claims and producer record cleared, counters kept (R21). -/
def WinCtl.drained (x : WinCtl) : WinCtl :=
  { x with order := [], claims := Vector.replicate 4 .cleared, prod := x.prod.cleared }

/-- The end of a drain (R21). -/
def State.drainComplete (s : State) (w : WinId) : State :=
  let life := (s.win w).life
  let s1 := s.reinitBanks w
  let s2 := s1.modWin w fun x => { x.drained with life := life.afterDrain }
  let s3 := if life = .retiring then s2.freeBanks w else s2
  { s3 with link := s3.link.drainEnded w }

/-- A drain is complete when OUTSTANDING is 0 (R21). -/
def State.drainCheck (s : State) (w : WinId) : State :=
  if (s.win w).life.draining && decide ((s.win w).outstanding = 0) then s.drainComplete w else s

/-- A completion that counts in OUTSTANDING has been handled: the count falls, and a drain it was awaited by may end (R13,
R21). -/
def State.opDone (s : State) (w : WinId) : State := (s.opEnded w).drainCheck w

/-- The transactions held at a port because of a window are answered REFUSED (R19). -/
def refuseHeld (w : WinId) (es : List Entry) : List Entry :=
  es.map fun e => if e.isHeldBy w then e.answer .refused [] else e

/-- How many transactions a window holds at a port. -/
def State.heldCount (s : State) (w : WinId) (p : PortId) : Nat := ((s.port p).entries.filter (Entry.isHeldBy w)).length

/-- Every transaction held because of a window is refused and counted in REFUSALS, without a fault (R19, R174). -/
def State.refuseHolds (s : State) (w : WinId) : State :=
  (List.finRange 4).foldl
    (fun s p =>
      (s.modEntries p (refuseHeld w)).modWin w fun x => { x with refusals := x.refusals + BitVec.ofNat 32 (s.heldCount w p) })
    s

/-- The open deadline and every claim deadline of a window are cancelled (R19). -/
def WinCtl.cancelDeadlines (x : WinCtl) : WinCtl :=
  { x with prod := { x.prod with opendl := none }, claims := mapVec (fun k => { k with claimdl := none }) x.claims }

/-- The entry to a draining state (R19); the drain may end in the same event (R21). -/
def State.drainEntry (s : State) (w : WinId) (target : Life) : State :=
  let s1 := s.refuseHolds w
  let s2 := s1.modWin w WinCtl.cancelDeadlines
  let s3 := s2.modJobs (abortJob w)
  (s3.modWin w fun x => { x with life := target }).drainCheck w

/-- The long-operation record after a command that started drains: its opcode, and those of the windows still draining; BUSY on
when there are any (R181). -/
def State.recordLongOp (s : State) (opcode : Byte) (ws : List WinId) : State :=
  let left := ws.filter fun w => (s.win w).life.draining
  { s with link := { s.link with busy := decide (left ≠ []), longOp := ⟨opcode, left⟩ } }

end Sys2Proof.Machine
end

