-- ==== Sys2Proof/Machine/Completion.lean ====
section
/-! DEFINITION. The memory port: GRANT with address translation and issue (8.2 to 8.5), MEMORY_COMPLETION and what the port,
the window controller and the merge engine do with a completion (R20, R34, R35, R47, R55, R104, R138, R150, 4.2 to 4.4). -/

namespace Sys2Proof.Machine

open Sys2Proof

/-! ### Grant (R145, R147, R149) -/

/-- The requesters in the order the arbiter examines them, starting with the one the pointer names (R147). -/
def arbiterOrder (pointer : Requester) : List Requester := (List.finRange 5).map fun k => pointer + k

/-- The requester chosen at a grant: the first in arbiter order whose queue is not empty (R147). -/
def MemPort.chosen (m : MemPort) : Option Requester := (arbiterOrder m.pointer).find? fun r => !(m.queues[r]).isEmpty

/-- The physical address of a request: PBASE of its bank plus OFFSET for a window request of a port, OFFSET unchanged for a
pass-through or ENGINE request (R145). -/
def State.physicalAddr (s : State) (q : MemReq) : Addr :=
  match q.window, q.bank with
  | some w, some b => (s.bank w b).pbase + q.offset
  | _, _ => q.offset

/-- The outstanding entry of a granted request (R146). -/
def MemReq.issue (q : MemReq) (addr : Addr) : Issue where
  owner := q.owner
  ref := q.ref
  window := q.window
  kind := q.kind
  addr := addr
  beatSize := q.beatSize
  burst := q.burst
  pos := q.pos

/-- The transaction on M of a granted request, its tag the requester's number (R149). -/
def MemReq.onBus (q : MemReq) (addr : Addr) : MTxn where
  addr := addr
  kind := q.kind
  beatSize := q.beatSize
  burst := q.burst
  wdata := q.wdata
  wen := q.wen
  tag := q.owner

/-- A requester's oldest request is issued, and the pointer moves past the requester (R147). -/
def State.grantTo (s : State) (r : Requester) : State :=
  match s.mport.queues[r] with
  | [] => s
  | q :: rest =>
    { s with
      mport :=
        { queues := s.mport.queues.set r.val rest
          outstanding := s.mport.outstanding ++ [q.issue (s.physicalAddr q)]
          pointer := r + 1 }
      out := { s.out with issued := some (q.onBus (s.physicalAddr q)) } }

/-- GRANT (R147): while RSTn is high, the outstanding-issue list holds fewer than 32 entries and a queue is not empty.
Otherwise no grant is made and nothing changes (R153). -/
def execGrant (s : State) : Host.Outcome State Fault Refusal :=
  .next <|
    if s.rstn && decide (s.mport.outstanding.length < Config.outstandingMax) then
      match s.mport.chosen with
      | some r => s.grantTo r
      | none => s
    else s

/-! ### Completion at the window controller -/

/-- MEM_READ_ERROR, once for a window read that failed, naming the port and the read's first granule (R55, R104, R47, R138). -/
def State.readError (s : State) (w : WinId) (p : PortId) (e : Entry) : State :=
  if e.errored then s.offer .memReadError (some w) (some p) (some (startGranule (s.cfg w) e.txn)) else s

/-- MEM_WRITE_ERROR for a producer write that failed (R35). -/
def State.writeError (s : State) (w : WinId) (e : Entry) : State :=
  if e.errored then
    s.offer .memWriteError (some w) (some (s.cfg w).producer) (some (startGranule (s.cfg w) e.txn))
  else s

/-- A completed producer write on its bank: POISON on ERROR, else the granules it stored join COVER (R34, R35). -/
def BankRec.recordWrite (c : WindowRec) (e : Entry) (r : BankRec) : BankRec :=
  if e.errored then { r with poison := true } else { r with cover := insertGranules (granulesCovered c e.txn) r.cover }

/-- What follows a producer write's completion: the commit decision at the trigger's completion, which for an overlay-only
trigger is the completion that brings WINFLIGHT to 0 (R32, R36, R96), or the abandonment of an EXPIRING session (R44). -/
def State.afterWrite (s : State) (w : WinId) (b : BankId) (e : Entry) : State :=
  let r := s.bank w b
  match r.state with
  | .committing => if e.trigger || decide (r.winflight = 0) then s.commitDecision w b else s
  | .expiring => if r.winflight = 0 then s.abandonLate w b else s
  | .filling => s
  | .merging => s
  | .free => s
  | .current => s
  | .held => s
  | .queued => s

/-- The bank's WINFLIGHT falls by one (R34, R35). -/
def State.writeLanded (s : State) (w : WinId) (b : BankId) : State :=
  s.modBank w b fun r => { r with winflight := r.winflight - 1 }

/-- Completion of a producer write: in an ACTIVE window as R34 to R36 and R44 state, in a draining one counted down only
(R20). When the last late completion of an EXPIRING bank is itself an ERROR, the event offers two records and R44 gives no order
for the pair: MEM_WRITE_ERROR is offered before OPEN_ABANDONED (DESIGN CHOICE, log 20). -/
def State.writeDone (s : State) (w : WinId) (b : BankId) (e : Entry) : State :=
  let s1 := s.writeLanded w b
  if (s.win w).life = .active then
    (((s1.modBank w b (BankRec.recordWrite (s.cfg w) e)).writeError w e).opEnded w).afterWrite w b e
  else (s1.writeError w e).opDone w

/-- The check on a claim after a read's completion has lowered READS (R55, R104). -/
def State.claimCheck (s : State) (w : WinId) (p : PortId) : State :=
  let k := s.claim w p
  if k.reads = 0 then
    if k.closing then s.releaseClaim w p else if k.deferred then s.claimExpiry w p else s
  else s

/-- Completion of a consumer read (R55, R104, R20). -/
def State.consumerReadDone (s : State) (w : WinId) (p : PortId) (e : Entry) : State :=
  let s1 := (s.modClaim w p fun k => { k with reads := k.reads - 1 }).readError w p e
  if (s.win w).life = .active then (s1.opEnded w).claimCheck w p else s1.opDone w

/-- Completion of a producer read (R47, R112, R20). -/
def State.producerReadDone (s : State) (w : WinId) (p : PortId) (e : Entry) : State := (s.readError w p e).opDone w

/-- The window controller receives the completion of a transaction (R138, R150). -/
def State.windowDone (s : State) (w : WinId) (p : PortId) (e : Entry) : State :=
  match e.txn.kind, e.dest with
  | .write, some b => s.writeDone w b e
  | .write, none => s.opDone w
  | .read, _ => if (s.cfg w).producer = p then s.producerReadDone w p e else s.consumerReadDone w p e

/-! ### Completion at the port -/

/-- Bytes of an issued part. -/
def Issue.bytes (o : Issue) : Nat := o.beatSize.bytes * (o.burst.val + 1)

/-- The entry after one of its parts completed (R138). -/
def Entry.partDone (o : Issue) (ok : Bool) (rdata : Burst) (e : Entry) : Entry :=
  let errored := e.errored || !ok
  let data := match o.kind with
    | .read => placeBytes o.pos o.bytes rdata e.data
    | .write => e.data
  if e.parts ≤ 1 then
    { e with parts := 0, errored := errored, data := data, state := .answered
             code := some (if errored then .fault else .okay) }
  else { e with parts := e.parts - 1, errored := errored, data := data }

/-- The entry is the one a request refers to: DISPATCHED, as every entry with parts is (R126), and of that name. -/
def Entry.isRef (r : Ref) (e : Entry) : Bool :=
  match r with
  | .entry serial => decide (e.serial = serial) && decide (e.state = .dispatched)
  | .job _ => false

/-- A port's part completes: the entry is updated, and with its last part the window controller receives the completion
(R138, R150). -/
def State.portCompletion (s : State) (p : PortId) (o : Issue) (ok : Bool) (rdata : Burst) : State :=
  match (s.port p).entries.find? (Entry.isRef o.ref) with
  | none => s
  | some e =>
    let s1 := s.modEntries p (modFirst (Entry.isRef o.ref) (Entry.partDone o ok rdata))
    match o.window with
    | some w => if e.parts ≤ 1 then s1.windowDone w p (e.partDone o ok rdata) else s1
    | none => s1

/-! ### Completion at the merge engine -/

/-- The job's success at its window: MERGED and PATTERNED set, and the bank published (R78). -/
def State.mergeSuccess (s : State) (j : Job) : State :=
  (s.modBank j.window j.dest fun r => { r with merged := j.filled, patterned := decide (j.source = none) }).publish j.window
    j.dest

/-- The job's failure at its window: MERGE_ERROR at the failing granule, and the bank dropped (R79). -/
def State.mergeFailure (s : State) (j : Job) : State :=
  (s.offer .mergeError (some j.window) none j.pending.head?).drop j.window j.dest none

/-- A granule read has completed OK: the granule is buffered and its write requested (R74). -/
def State.granuleFetched (s : State) (j : Job) (rest : List Job) (rdata : Burst) : State :=
  let s1 := (s.modJobs fun _ => { j with phase := .writing } :: rest).setBuffer (rdata.setWidth 512)
  s1.requestOp j.window
    (engineReq j.window .write (s1.granuleAddr j.window j.dest (j.pending.headD 0)) s1.engine.buffer)

/-- A granule write has completed OK: the granule leaves PENDING and FILLED rises; the next granule starts, or the job ends in
success and the next job starts (R76, R78). -/
def State.granuleStored (s : State) (w : WinId) (j : Job) (rest : List Job) : State :=
  let j1 := { j with pending := j.pending.tail, filled := j.filled + 1 }
  if j1.pending = [] then (((s.modJobs fun _ => rest).mergeSuccess j1).opDone w).startHead
  else ((s.modJobs fun _ => j1 :: rest).startHead).opDone w

/-- The completion of the head job's requested operation (R74 to R79, R82). A WAITING head has none outstanding. -/
def State.engineCompletion (s : State) (w : WinId) (ok : Bool) (rdata : Burst) : State :=
  match s.engine.jobs with
  | [] => s.opDone w
  | j :: rest =>
    if j.aborted then ((s.modJobs fun _ => rest).opDone w).startHead
    else if !ok then (((s.modJobs fun _ => rest).mergeFailure j).opDone w).startHead
    else
      match j.phase with
      | .reading => (s.granuleFetched j rest rdata).opDone w
      | .writing => s.granuleStored w j rest
      | .waiting => s.opDone w

/-! ### MEMORY_COMPLETION (R150, R153) -/

/-- The oldest outstanding entry's completion is routed to its owner (R150). -/
def State.route (s : State) (o : Issue) (ok : Bool) (rdata : Burst) : State :=
  if h : o.owner.val < 4 then s.portCompletion ⟨o.owner.val, h⟩ o ok rdata
  else
    match o.window with
    | some w => s.engineCompletion w ok rdata
    | none => s

/-- MEMORY_COMPLETION (R150). A completion that arrives with no outstanding entry, or while RSTn is low, is discarded (R153). -/
def execMemoryCompletion (ok : Bool) (rdata : Burst) (s : State) : Host.Outcome State Fault Refusal :=
  .next <|
    match s.rstn, s.mport.outstanding with
    | true, o :: rest => { s with mport := { s.mport with outstanding := rest } }.route o ok rdata
    | _, _ => s

end Sys2Proof.Machine
end

