-- ==== Sys2Proof/Machine/Ports.lean ====
section
/-! DEFINITION. The initiator port units: ACCEPT, DISPATCH with the decoder's classification, RESPONSE_RETURN (chapter 7). -/

namespace Sys2Proof.Machine

open Sys2Proof

/-! ### Acceptance (R127) -/

/-- An entry as it enters an accepted list. -/
def Entry.accepted (serial : Nat) (t : Txn) : Entry where
  serial := serial
  txn := t
  state := .waiting
  code := none
  parts := 0
  errored := false
  data := []
  holdwin := none
  holddl := none
  dest := none
  trigger := false

/-- A port unit with a transaction accepted at the tail of its list. -/
def PortUnit.accept (u : PortUnit) (t : Txn) : PortUnit where
  entries := u.entries ++ [Entry.accepted u.nextSerial t]
  nextSerial := u.nextSerial + 1

/-- Whether a port accepts: RSTn is high and its list holds fewer than 8 entries (R127, R141). -/
def State.accepts (s : State) (p : PortId) : Bool := s.rstn && decide ((s.port p).entries.length < Config.acceptedMax)

/-- ACCEPT (R127). A transaction that the port does not accept stays on the bus: nothing changes. -/
def execAccept (p : PortId) (t : Txn) (s : State) : Host.Outcome State Fault Refusal :=
  .next (if s.accepts p then { s with ports := s.ports.set p.val (s.ports[p].accept t) } else s)

/-! ### Classification (R129 to R131) -/

/-- The seven tests of R130. -/
inductive Class where
  | malformed
  | shadow (w : WinId)
  | straddle (w : WinId)
  | inactive (w : WinId)
  | foreign (w : WinId)
  | window (w : WinId)
  | passThrough
  deriving DecidableEq, Repr

/-- The lowest-numbered window that is not OFF and one of whose shadow ranges the span touches (R131). -/
def State.shadowTouched (s : State) (t : Txn) : Option WinId :=
  s.liveWindows.find? fun w => (s.cfg w).shadowIds.any fun k => touchesRange t (s.cfg w) k.val

/-- The lowest-numbered window that is not OFF and whose window range the span touches (R131). -/
def State.windowTouched (s : State) (t : Txn) : Option WinId :=
  s.liveWindows.find? fun w => touchesRange t (s.cfg w) 0

/-- The port has a role in the window: its producer or one of its consumers (R130). -/
def hasRole (c : WindowRec) (p : PortId) : Bool := decide (c.producer = p) || hasPort c.consumers p

/-- The classification of a dispatched transaction: the first test of R130 that fits. -/
def State.classify (s : State) (p : PortId) (t : Txn) : Class :=
  if malformed t then .malformed
  else
    match s.shadowTouched t with
    | some w => .shadow w
    | none =>
      match s.windowTouched t with
      | none => .passThrough
      | some w =>
        if !withinWindow t (s.cfg w) then .straddle w
        else if (s.win w).life ≠ .active then .inactive w
        else if hasRole (s.cfg w) p then .window w
        else .foreign w

/-! ### Dispatch (R128, R132, R133) -/

/-- A transaction handed to the controller of an ACTIVE window, by role and kind (R133). -/
def State.windowAccess (s : State) (w : WinId) (p : PortId) (e : Entry) : State × Treatment :=
  if (s.cfg w).producer = p then
    match e.txn.kind with
    | .write => s.producerWrite w p e
    | .read => s.producerRead w p e
  else
    match e.txn.kind with
    | .write => s.consumerWrite w p e
    | .read => s.consumerRead w p e

/-- What becomes of a dispatched transaction, by its class (R130 to R133). -/
def State.treat (s : State) (p : PortId) (e : Entry) : State × Treatment :=
  match s.classify p e.txn with
  | .malformed => (s.offer .malformed none (some p) (some (lowAddress e.txn)), .answered .refused [])
  | .shadow w => (s.offer .shadowAccess (some w) (some p) (some (lowAddress e.txn)), .answered .refused [])
  | .straddle w => (s.offer .straddle (some w) (some p) (some (lowAddress e.txn)), .answered .refused [])
  | .inactive w => s.refuse w
  | .foreign w =>
    ((s.countRefusal w).offer .foreign (some w) (some p) (some (startGranule (s.cfg w) e.txn)), .answered .refused [])
  | .window w => s.windowAccess w p e
  | .passThrough => (s, .sent [passPart p e.serial e.txn] (noData e.txn) none false)

/-- The entry of a transaction that goes to memory (R132, R133). -/
def Entry.send (n : Nat) (data : List Byte) (dest : Option BankId) (trigger : Bool) (e : Entry) : Entry :=
  { e with state := .dispatched, parts := n, data := data, dest := dest, trigger := trigger }

/-- The entry of a transaction that a window holds (R134). -/
def Entry.hold (w : WinId) (deadline : Stamp) (e : Entry) : Entry :=
  { e with state := .held, holdwin := some w, holddl := some deadline }

/-- The port records the treatment on the entry it dispatched, its oldest WAITING one, and hands over the parts (R133, R134,
R143). -/
def State.settle (s : State) (p : PortId) : Treatment → State
  | .answered code data => s.modEntries p (modFirst Entry.isWaiting (Entry.answer code data))
  | .sent parts data dest trigger =>
    (s.modEntries p (modFirst Entry.isWaiting (Entry.send parts.length data dest trigger))).handOver (requesterOf p) parts
  | .held w => s.modEntries p (modFirst Entry.isWaiting (Entry.hold w (s.due (s.cfg w).holdlim)))

/-- The entry a port dispatches: its oldest WAITING entry, when RSTn is high and no entry is HELD (R128). -/
def State.dispatchable (s : State) (p : PortId) : Option Entry :=
  if s.rstn && (s.heldEntry p).isNone then (s.port p).entries.find? Entry.isWaiting else none

/-- DISPATCH (R128). With nothing to dispatch, nothing changes. -/
def execDispatch (p : PortId) (s : State) : Host.Outcome State Fault Refusal :=
  .next <|
    match s.dispatchable p with
    | none => s
    | some e => (s.treat p e).1.settle p (s.treat p e).2

/-! ### Return of responses (R139, R140) -/

/-- The response of an ANSWERED entry: for a READ as many beats as its beat count, DATA when OKAY and 0x00 in every byte of
every beat otherwise; for a WRITE no data (R139). -/
def Entry.response (e : Entry) (code : Code) : Response where
  tag := e.txn.tag
  kind := e.txn.kind
  code := code
  beats := match e.txn.kind, code with
    | .read, .okay => (List.range (e.txn.burst.val + 1)).map (responseBeat e.txn e.data)
    | .read, .refused => List.replicate (e.txn.burst.val + 1) 0
    | .read, .fault => List.replicate (e.txn.burst.val + 1) 0
    | .write, _ => []

/-- RESPONSE_RETURN (R140): the response of the oldest entry, when it is ANSWERED and RSTn is high, is returned and the entry
leaves the list. Otherwise nothing is returned. -/
def execResponseReturn (p : PortId) (s : State) : Host.Outcome State Fault Refusal :=
  .next <|
    match s.rstn, (s.port p).entries with
    | true, e :: rest =>
      match e.state, e.code with
      | .answered, some code =>
        let s1 := s.modEntries p fun _ => rest
        { s1 with out := { s1.out with responses := s1.out.responses.set p.val (some (e.response code)) } }
      | _, _ => s
    | _, _ => s

end Sys2Proof.Machine
end

