-- ==== Sys2Proof/Machine/Reset.lean ====
section
/-! DEFINITION. RSTN_ASSERT and RSTN_RELEASE (R14, R85, R141, R153, R155, R163, R176). -/

namespace Sys2Proof.Machine

open Sys2Proof

/-- A window controller while RSTn is low: OFF, with no drain, claim, session or queued message (R14, R163); the sequence
number, LASTSTAMP and the counters take their reset values at the release (log 10). -/
def WinCtl.inReset (x : WinCtl) : WinCtl := { x.drained with life := .off, outstanding := 0 }

/-- The link while RSTn is low: it receives no frame and a frame in progress is gone (R176); no drain is awaited. -/
def Link.inReset (l : Link) : Link := { l with receiver := .idle, busy := false, longOp := ⟨0, []⟩ }

/-- RSTN_ASSERT (R141): accepted lists, request queues, outstanding issues, merge jobs and any frame in progress are discarded
without responses, completions or outcomes; the counter holds 0 (R155) and every window is OFF (R163). -/
def execRstnAssert (s : State) : Host.Outcome State Fault Refusal :=
  .next
    { s with
      rstn := false
      ports := Vector.replicate 4 .reset
      windows := mapVec WinCtl.inReset s.windows
      pool := mapVec (fun r => { r with owner := none }) s.pool
      engine := { s.engine with jobs := [] }
      mport := .reset
      time := { s.time with stamp := 0, phase := 0 }
      link := s.link.inReset }

/-- The link on release of RSTn: with CSn low no frame begins until CSn has risen and fallen again (R176). -/
def Link.released (csnLow : Bool) : Link := { Link.reset with receiver := { Receiver.idle with awaitRise := csnLow } }

/-- RSTN_RELEASE (R14): every piece of state takes its reset value; the commands that wait are the sender's and stay. RSTn can
rise only where it is low: where it is high nothing changes. -/
def execRstnRelease (csnLow : Bool) (s : State) : Host.Outcome State Fault Refusal :=
  .next (if s.rstn then s else { State.reset with link := Link.released csnLow, pending := s.pending })

end Sys2Proof.Machine
end

