-- ==== Sys2Proof/Machine/Link.lean ====
section
/-! DEFINITION. The management link's frames and the answers of its commands: BUSY (R180, R181), the staged table (R183),
lifecycle (R16 to R18, R22, R184), reads of windows, banks, claims, ports, counters and time (R185 to R188), faults and masks
(R170, R171, R189). -/

namespace Sys2Proof.Machine

open Sys2Proof

/-! ### Answers -/

/-- The status code in byte 0 of an answer (R180). -/
def Status.code : Status → Byte
  | .none => 0x00
  | .done => 0x01
  | .busy => 0x02
  | .invalid => 0x03
  | .badState => 0x04
  | .badWindow => 0x05
  | .badField => 0x06
  | .empty => 0x07
  | .frameErr => 0x08

/-- The eight bytes of an answer (R177). -/
def Answer.bytes (a : Answer) : List Byte := a.status.code :: a.opcode :: a.data.toList

/-- Bit n of an answer on SDO: bytes in order, most significant bit first; 0 from the 65th clock on (R177). -/
def Answer.bit (a : Answer) (n : Nat) : Bool :=
  if n < Config.frameClocks then (a.bytes.getD (n / 8) 0).getLsbD (7 - n % 8) else false

/-- What SDO carried in a frame, clock by clock (R177). -/
def SdoFrame.bits (f : SdoFrame) : List Bool := (List.range f.clocks).map f.answer.bit

/-- The six data bytes of an answer; a byte that a command does not define is 0x00 (R179). -/
def dataOf (bytes : List Byte) : Vector Byte 6 := Vector.ofFn fun i => bytes.getD i.val 0

/-- What the execution of a command gives: the state after it, the status and the data bytes defined. -/
structure Reply where
  state : State
  status : Status
  data : List Byte
  deriving DecidableEq, Repr

/-- A command that leaves all state outside the link controller unchanged and gives no data. -/
def State.reply (s : State) (x : Status) : Reply := ⟨s, x, []⟩

/-- A read command's answer. -/
def State.replyData (s : State) (data : List Byte) : Reply := ⟨s, .done, data⟩

/-- A data byte for a flag. -/
def bitByte (b : Bool) : Byte := if b then 1 else 0

/-- A data byte for an optional number, 0xFF for none (11.3). -/
def optByte (x : Option Nat) : Byte := match x with
  | some n => byteOf n
  | none => 0xFF

/-! ### Frames (R176 to R180) -/

/-- The commands that are executed while BUSY is on: STATUS and the read commands (R180, check 1). -/
def runsWhileBusy (op : Byte) : Bool :=
  [0x01#8, 0x11#8, 0x30#8, 0x31#8, 0x32#8, 0x33#8, 0x34#8, 0x50#8].contains op

/-- The answer latch is set (R179). -/
def State.setLatch (s : State) (a : Answer) : State := { s with link := { s.link with latch := a } }

/-- A frame of `clocks` clocks has ended: SDO carried the answer latch, and the receiver is idle (R177). -/
def State.frameEnded (s : State) (clocks : Nat) : State :=
  { s with
    link := { s.link with receiver := .idle }
    out := { s.out with sdo := some ⟨s.link.latch, clocks⟩ } }

/-- CSn has risen with no frame received: the receiver may begin a frame at the next CSn fall (R176, R178). -/
def State.csnRisen (s : State) : State := { s with link := { s.link with receiver := .idle } }

/-- Whether the link receives a frame that begins now: RSTn is high, and CSn has risen since its release (R176). -/
def State.receives (s : State) : Bool := s.rstn && !s.link.receiver.awaitRise

/-- A complete request's execution at the end of its frame: check 1 of R180, then the command; the latch takes the answer with
the opcode received (R179). -/
def State.executeRequest (s : State) (op : Byte) (run : State → Reply) : State :=
  if s.link.busy && !runsWhileBusy op then s.setLatch ⟨.busy, op, dataOf []⟩
  else (run s).state.setLatch ⟨(run s).status, op, dataOf (run s).data⟩

/-- A whole frame of 64 clocks that carries a request (R177). While RSTn is low the link receives no frame (R176); when no
frame could begin because CSn was low at the release, its rise at the end of the clocks lets the next one begin. -/
def State.frame (s : State) (op : Byte) (run : State → Reply) : State :=
  if s.receives then (s.frameEnded Config.frameClocks).executeRequest op run
  else if s.rstn then s.csnRisen
  else s

/-- Check 3 of R180: a command that names a window with WINDOW above 15 is answered BADWINDOW. -/
def State.withWindow (s : State) (r : LinkReq) (run : WinId → Reply) : Reply :=
  if h : r.window.toNat < 16 then run ⟨r.window.toNat, h⟩ else s.reply .badWindow

/-! ### STATUS (R182) -/

/-- The six data bytes of STATUS. With BUSY off there is no long operation, and byte 2 is 0x00. -/
def State.statusData (s : State) : List Byte :=
  [bitByte s.link.busy, optByte (s.link.longOp.windows.head?.map Fin.val), if s.link.busy then s.link.longOp.opcode else 0,
    byteOf s.faults.queue.length, s.faults.overrun, byteOf s.link.longOp.windows.length]

/-- STATUS is answered DONE in every state. -/
def State.cmdStatus (s : State) : Reply := s.replyData s.statusData

/-! ### The staged table (R1, R183) -/

/-- A 40-bit address from VALUE and INDEX (R183). -/
def addressOf (r : LinkReq) : Addr := r.index ++ r.value

/-- A VALUE below a bound, as a number. -/
def below (n : Nat) (v : BitVec 32) : Option Nat := if v.toNat < n then some v.toNat else none

/-- SHADOW[k] stored, for k from 1 to 7. -/
def WindowRec.setShadow (c : WindowRec) (k : Nat) (a : Addr) : WindowRec :=
  if h : 1 ≤ k ∧ k ≤ 7 then { c with shadow := c.shadow.set (k - 1) a (by omega) } else c

/-- The record with VALUE stored into FIELD; none for a FIELD that the table of R183 does not list or a value outside the
"values held" range. INDEX is examined for BASE and SHADOW only. -/
def WindowRec.write (c : WindowRec) (r : LinkReq) : Option WindowRec :=
  match r.field.toNat with
  | 0x01 => (below 2 r.value).map fun n => { c with mode := if n = 0 then .snapshot else .queue }
  | 0x02 => some { c with base := addressOf r }
  | 0x03 => (below 2048 r.value).map fun n => { c with granules := BitVec.ofNat 11 n }
  | 0x04 => (below 16 r.value).map fun n => { c with banks := BitVec.ofNat 4 n }
  | 0x05 => (below 4 r.value).map fun n => { c with producer := Fin.ofNat 4 n }
  | 0x06 => (below 16 r.value).map fun n => { c with consumers := BitVec.ofNat 4 n }
  | 0x07 => (below 2 r.value).map fun n => { c with trigger := if n = 0 then .atEnd else .atHead }
  | 0x08 => (below 2 r.value).map fun n => { c with partialPolicy := if n = 0 then .merge else .discard }
  | 0x09 => (below 2 r.value).map fun n => { c with overlay := decide (n = 1) }
  | 0x0A => (below 2 r.value).map fun n => { c with empty := if n = 0 then .pattern else .refuse }
  | 0x0B => (below 2 r.value).map fun n => { c with full := if n = 0 then .refuse else .hold }
  | 0x0C => (below 256 r.value).map fun n => { c with fillbyte := BitVec.ofNat 8 n }
  | 0x0D => (below 65536 r.value).map fun n => { c with claimlim := BitVec.ofNat 16 n }
  | 0x0E => (below 65536 r.value).map fun n => { c with openlim := BitVec.ofNat 16 n }
  | 0x0F => (below 65536 r.value).map fun n => { c with holdlim := BitVec.ofNat 16 n }
  | 0x10 => (below 4 r.value).map fun n => { c with rdyProducer := n.testBit 0, rdyConsumer := n.testBit 1 }
  | 0x11 => (below 1024 r.value).map fun n => { c with fmask := BitVec.ofNat 10 n }
  | 0x21 => some (c.setShadow 1 (addressOf r))
  | 0x22 => some (c.setShadow 2 (addressOf r))
  | 0x23 => some (c.setShadow 3 (addressOf r))
  | 0x24 => some (c.setShadow 4 (addressOf r))
  | 0x25 => some (c.setShadow 5 (addressOf r))
  | 0x26 => some (c.setShadow 6 (addressOf r))
  | 0x27 => some (c.setShadow 7 (addressOf r))
  | _ => none

/-- The stored value of FIELD in the encoding of R183; none for a FIELD that the table does not list. -/
def WindowRec.read (c : WindowRec) (field : Byte) : Option Addr :=
  match field.toNat with
  | 0x01 => some (match c.mode with | .snapshot => 0 | .queue => 1)
  | 0x02 => some c.base
  | 0x03 => some (c.granules.setWidth 40)
  | 0x04 => some (c.banks.setWidth 40)
  | 0x05 => some (BitVec.ofNat 40 c.producer.val)
  | 0x06 => some (c.consumers.setWidth 40)
  | 0x07 => some (match c.trigger with | .atEnd => 0 | .atHead => 1)
  | 0x08 => some (match c.partialPolicy with | .merge => 0 | .discard => 1)
  | 0x09 => some (if c.overlay then 1 else 0)
  | 0x0A => some (match c.empty with | .pattern => 0 | .refuse => 1)
  | 0x0B => some (match c.full with | .refuse => 0 | .hold => 1)
  | 0x0C => some (c.fillbyte.setWidth 40)
  | 0x0D => some (c.claimlim.setWidth 40)
  | 0x0E => some (c.openlim.setWidth 40)
  | 0x0F => some (c.holdlim.setWidth 40)
  | 0x10 => some ((flagByte [c.rdyProducer, c.rdyConsumer]).setWidth 40)
  | 0x11 => some (c.fmask.setWidth 40)
  | 0x21 => some (c.bankBase 1)
  | 0x22 => some (c.bankBase 2)
  | 0x23 => some (c.bankBase 3)
  | 0x24 => some (c.bankBase 4)
  | 0x25 => some (c.bankBase 5)
  | 0x26 => some (c.bankBase 6)
  | 0x27 => some (c.bankBase 7)
  | _ => none

/-- The staged record of a window is replaced. -/
def State.stage (s : State) (w : WinId) (c : WindowRec) : State :=
  { s with link := { s.link with staged := s.link.staged.set w.val c } }

/-- STAGE WRITE: BADFIELD, then BADSTATE for a window that is not OFF, else the value is stored as written (R1, R183). -/
def State.cmdStageWrite (s : State) (r : LinkReq) : Reply :=
  s.withWindow r fun w =>
    match (s.cfg w).write r with
    | none => s.reply .badField
    | some c => if (s.win w).life = .off then ⟨s.stage w c, .done, le32 r.value⟩ else s.reply .badState

/-- STAGE READ: the low 32 bits in bytes 0 to 3 and the high byte in byte 4 (R183). -/
def State.cmdStageRead (s : State) (r : LinkReq) : Reply :=
  s.withWindow r fun w =>
    match (s.cfg w).read r.field with
    | none => s.reply .badField
    | some x => s.replyData (le32 (x.extractLsb' 0 32) ++ [x.extractLsb' 32 8])

/-! ### ENABLE and its validation (R16, R17) -/

/-- The reasons of an INVALID answer; the code is the order number of the check (R16, R180). -/
inductive Reason where
  | length
  | align
  | bankCount
  | ports
  | limits
  | overlapWindow
  | overlapShadow
  | pool
  deriving DecidableEq, Repr

/-- The reason code (R180). -/
def Reason.code : Reason → Byte
  | .length => 1
  | .align => 2
  | .bankCount => 3
  | .ports => 4
  | .limits => 5
  | .overlapWindow => 6
  | .overlapShadow => 7
  | .pool => 8

/-- The bank indices that checks 1 and 2 read: 0 for BASE and 1 to min(BANKS, 8) − 1 for the shadows that exist (R16). -/
def WindowRec.checkedIds (c : WindowRec) : List Nat := 0 :: (List.range' 1 (min c.bankCount 8 - 1))

/-- Check 1, LENGTH, fails. -/
def WindowRec.badLength (c : WindowRec) : Bool :=
  decide (c.granuleCount = 0) || decide (Config.granulesMax < c.granuleCount)
    || c.checkedIds.any fun k => decide (Config.addressTop < (c.range k).hi)

/-- Check 2, ALIGN, fails. -/
def WindowRec.badAlign (c : WindowRec) : Bool :=
  c.checkedIds.any fun k => decide ((c.bankBase k).toNat % Config.granuleBytes ≠ 0)

/-- Check 3, BANK_COUNT, fails. -/
def WindowRec.badBankCount (c : WindowRec) : Bool :=
  match c.mode with
  | .snapshot => !(decide (3 ≤ c.bankCount) && decide (c.bankCount ≤ 6))
  | .queue => !(decide (1 ≤ c.bankCount) && decide (c.bankCount ≤ 8))

/-- Check 4, PORTS, fails. -/
def WindowRec.badPorts (c : WindowRec) : Bool :=
  hasPort c.consumers c.producer
    || match c.mode with
      | .snapshot => decide (portCount c.consumers < 1) || decide (min 3 (c.bankCount - 2) < portCount c.consumers)
      | .queue => decide (portCount c.consumers ≠ 1)

/-- The ranges of a window: its window range and its shadow ranges (R3). -/
def WindowRec.ranges (c : WindowRec) : List Range := c.bankIds.map fun b => c.range b.val

/-- Some pair of ranges of a list overlaps. -/
def anyOverlap : List Range → Bool
  | [] => false
  | r :: rest => rest.any r.overlaps || anyOverlap rest

/-- The other windows that are not OFF (R17). -/
def State.otherWindows (s : State) (w : WinId) : List WinId := s.liveWindows.filter fun x => decide (x ≠ w)

/-- Check 6, OVERLAP_WINDOW, fails. -/
def State.overlapsWindow (s : State) (w : WinId) : Bool :=
  (s.otherWindows w).any fun x => ((s.cfg w).range 0).overlaps ((s.cfg x).range 0)

/-- Check 7, OVERLAP_SHADOW, fails. -/
def State.overlapsShadow (s : State) (w : WinId) : Bool :=
  ((s.otherWindows w).any fun x => (s.cfg w).ranges.any fun a => (s.cfg x).ranges.any a.overlaps)
    || anyOverlap (s.cfg w).ranges

/-- Validation: the reason of the first check that fails (R16). -/
def State.invalidReason (s : State) (w : WinId) : Option Reason :=
  let c := s.cfg w
  if c.badLength then some .length
  else if c.badAlign then some .align
  else if c.badBankCount then some .bankCount
  else if c.badPorts then some .ports
  else if c.holdlim = 0 then some .limits
  else if s.overlapsWindow w then some .overlapWindow
  else if s.overlapsShadow w then some .overlapShadow
  else if s.freeRecords.length < c.bankCount then some .pool
  else none

/-- A successful ENABLE: records taken and the window ACTIVE in the just-enabled condition (R10, R18). -/
def State.enableWindow (s : State) (w : WinId) : State :=
  (s.takeRecords w).modWin w fun _ => { WinCtl.reset with life := .active }

/-- ENABLE (R15, R16, R18, R184). -/
def State.cmdEnable (s : State) (r : LinkReq) : Reply :=
  s.withWindow r fun w =>
    if (s.win w).life ≠ .off then s.reply .badState
    else
      match s.invalidReason w with
      | some x => ⟨s, .invalid, [x.code]⟩
      | none => (s.enableWindow w).reply .done

/-- DISABLE: an ACTIVE window enters RETIRING, a SUSPENDED one is OFF at once (R15, R22, R184). -/
def State.cmdDisable (s : State) (r : LinkReq) : Reply :=
  s.withWindow r fun w =>
    match (s.win w).life with
    | .active => ((s.drainEntry w .retiring).recordLongOp 0x21 [w]).reply .done
    | .suspended => ((s.modWin w fun x => { x with life := .off }).freeBanks w).reply .done
    | .off => s.reply .badState
    | .suspending => s.reply .badState
    | .retiring => s.reply .badState
    | .restarting => s.reply .badState

/-- SUSPEND: an ACTIVE window enters SUSPENDING (R15, R184). -/
def State.cmdSuspend (s : State) (r : LinkReq) : Reply :=
  s.withWindow r fun w =>
    if (s.win w).life = .active then ((s.drainEntry w .suspending).recordLongOp 0x22 [w]).reply .done
    else s.reply .badState

/-- RESUME: a SUSPENDED window is ACTIVE at once (R15, R22, R184). -/
def State.cmdResume (s : State) (r : LinkReq) : Reply :=
  s.withWindow r fun w =>
    if (s.win w).life = .suspended then (s.modWin w fun x => { x with life := .active }).reply .done
    else s.reply .badState

/-- The windows that are ACTIVE, lowest first. -/
def State.activeWindows (s : State) : List WinId := (List.finRange 16).filter fun w => decide ((s.win w).life = .active)

/-- SESSION CLEAR: every ACTIVE window enters RESTARTING (R24, R184). -/
def State.cmdSessionClear (s : State) : Reply :=
  ((s.activeWindows.foldl (fun s w => s.drainEntry w .restarting) s).recordLongOp 0x24 s.activeWindows).reply .done

/-! ### Reads (R185 to R188) -/

/-- The lifecycle code (R185). -/
def Life.code : Life → Byte
  | .off => 0
  | .active => 1
  | .suspending => 2
  | .suspended => 3
  | .retiring => 4
  | .restarting => 5

/-- The bank state code of BANK READ (R186). -/
def BankState.code : BankState → Byte
  | .free => 0
  | .filling => 1
  | .committing => 2
  | .merging => 3
  | .expiring => 4
  | .current => 5
  | .held => 6
  | .queued => 7

/-- A stamp that may be absent, 0 for none. -/
def optStamp (x : Option Stamp) : Stamp := x.getD 0

/-- The bank at a position of the order list, 0xFF where the list holds no entry. -/
def State.orderAt (s : State) (w : WinId) (i : Nat) : Byte := optByte ((s.win w).order[i]?.map Fin.val)

/-- The pages of WINDOW READ (R185). -/
def State.windowPage (s : State) (w : WinId) (r : LinkReq) : Option (List Byte) :=
  let x := s.win w
  match r.field.toNat with
  | 0 => some ([x.life.code, optByte (x.prod.bank.map Fin.val), byteOf (s.producerCode w)] ++ le16 x.prod.nextseq
      ++ [flagByte [x.prod.lastdrop, x.prod.lastrefused]])
  | 1 => some (le32 (optStamp x.prod.opendl) ++ [bitByte x.prod.opendl.isSome, byteOf x.outstanding])
  | 2 => some (le32 x.prod.laststamp ++ [byteOf x.order.length, s.orderAt w 0])
  | 3 => some ((List.range 6).map fun i => s.orderAt w (r.index.toNat + i))
  | _ => none

/-- WINDOW READ, in every lifecycle state (R185). -/
def State.cmdWindowRead (s : State) (r : LinkReq) : Reply :=
  s.withWindow r fun w =>
    match s.windowPage w r with
    | some data => s.replyData data
    | none => s.reply .badField

/-- Bit j of the result is on when granule lo + j is in a set, for j from 0 to 31 (R186). -/
def coverWord (cover : List Nat) (lo : Nat) : BitVec 32 :=
  (List.range 32).foldl (fun acc j => if cover.contains (lo + j) then acc ||| (1#32 <<< j) else acc) 0

/-- Whether BANK READ has a page for a FIELD: 0 to 3, and 0x20 + k for 32k below GRANULES (R186). -/
def WindowRec.hasBankPage (c : WindowRec) (field : Byte) : Bool :=
  decide (field.toNat ≤ 3) || (decide (0x20 ≤ field.toNat) && decide (32 * (field.toNat - 0x20) < c.granuleCount))

/-- The pages of BANK READ (R186); a FIELD without a page has been refused before. -/
def State.bankPage (s : State) (w : WinId) (b : BankId) (field : Byte) : List Byte :=
  let r := s.bank w b
  match field.toNat with
  | 0 => [r.state.code, r.session, flagByte [r.poison, r.patterned], byteOf r.winflight, r.holders.setWidth 8, r.deliveries]
  | 1 => le16 r.seq ++ le16Nat r.length ++ le16Nat r.written
  | 2 => le32 r.stamp ++ le16Nat r.merged
  | 3 => le32 (r.pbase.extractLsb' 0 32) ++ [r.pbase.extractLsb' 32 8, optByte ((s.recordOf w b).map Fin.val)]
  | n => le32 (coverWord r.cover (32 * (n - 0x20))) ++ le16Nat r.cover.length

/-- BANK READ (R186): BADFIELD for an INDEX at or above the staged BANKS or a FIELD without a page, BADSTATE for an OFF window,
of which no pool record is read. A window that is not OFF has at most 8 banks (R16). -/
def State.cmdBankRead (s : State) (r : LinkReq) : Reply :=
  s.withWindow r fun w =>
    if (s.cfg w).bankCount ≤ r.index.toNat ∨ (s.cfg w).hasBankPage r.field = false then s.reply .badField
    else if (s.win w).life = .off then s.reply .badState
    else if h : r.index.toNat < 8 then s.replyData (s.bankPage w ⟨r.index.toNat, h⟩ r.field)
    else s.reply .badField

/-- The pages of CLAIM READ (R187). -/
def Claim.page (k : Claim) (field : Byte) : Option (List Byte) :=
  match field.toNat with
  | 0 => some [optByte (k.bank.map Fin.val), byteOf k.reads,
      flagByte [k.closing, k.deferred, k.expired, k.claimexpired, k.claimdl.isSome], k.missed, k.claimmissed]
  | 1 => some (le32 (optStamp k.claimdl) ++ le16 k.lastseq)
  | _ => none

/-- CLAIM READ, in every lifecycle state (R187). -/
def State.cmdClaimRead (s : State) (r : LinkReq) : Reply :=
  s.withWindow r fun w =>
    if h : r.index.toNat < 4 then
      match (s.claim w ⟨r.index.toNat, h⟩).page r.field with
      | some data => s.replyData data
      | none => s.reply .badField
    else s.reply .badField

/-- HOLDDL minus the present stamp, modulo 2^32; 0 without a HELD entry (R142). -/
def State.ticksLeft (s : State) (p : PortId) : Stamp :=
  match s.heldEntry p with
  | some e => match e.holddl with
    | some d => d - s.time.stamp
    | none => 0
  | none => 0

/-- The items of PORT READ (R142, R187). -/
def State.portPage (s : State) (p : PortId) : List Byte :=
  [byteOf (s.port p).entries.length, bitByte (s.heldEntry p).isSome,
    optByte (((s.heldEntry p).bind fun e => e.holdwin).map Fin.val)] ++ le16 ((s.ticksLeft p).setWidth 16)

/-- PORT READ (R142, R187). -/
def State.cmdPortRead (s : State) (r : LinkReq) : Reply :=
  if h : r.index.toNat < 4 then s.replyData (s.portPage ⟨r.index.toNat, h⟩) else s.reply .badField

/-- The counters of COUNTER READ (R188). -/
def WinCtl.counter (x : WinCtl) (field : Byte) : Option Count32 :=
  match field.toNat with
  | 0 => some x.commits
  | 1 => some x.drops
  | 2 => some x.refusals
  | 3 => some x.expiries
  | _ => none

/-- COUNTER READ, in every lifecycle state (R188). -/
def State.cmdCounterRead (s : State) (r : LinkReq) : Reply :=
  s.withWindow r fun w =>
    match (s.win w).counter r.field with
    | some n => s.replyData (le32 n)
    | none => s.reply .badField

/-- COUNTER CLEAR: the window's four counters become 0 (R172, R188). -/
def State.cmdCounterClear (s : State) (r : LinkReq) : Reply :=
  s.withWindow r fun w =>
    (s.modWin w fun x => { x with commits := 0, drops := 0, refusals := 0, expiries := 0 }).reply .done

/-- TIME READ (R162, R188). -/
def State.cmdTimeRead (s : State) : Reply := s.replyData (le32 s.time.stamp)

/-- PRESCALE: a VALUE from 1 to 250 is stored and governs from the next increment (R156, R188). -/
def State.cmdPrescale (s : State) (r : LinkReq) : Reply :=
  if 1 ≤ r.value.toNat ∧ r.value.toNat ≤ Config.prescalerMax then
    ⟨{ s with time := { s.time with p := r.value.toNat } }, .done, [byteOf r.value.toNat]⟩
  else s.reply .badField

/-- MASK WRITE: a VALUE from 0 to 7 becomes the global mask (R171, R188). -/
def State.cmdMaskWrite (s : State) (r : LinkReq) : Reply :=
  if r.value.toNat < 8 then
    ⟨{ s with faults := { s.faults with mask := BitVec.ofNat 3 r.value.toNat } }, .done, [byteOf r.value.toNat]⟩
  else s.reply .badField

/-! ### The fault queue (R170, R189) -/

/-- The two bytes of LOCATION, 0xFFFF for none (R189). -/
def locationBytes (x : Option Nat) : List Byte := match x with
  | some n => le16Nat n
  | none => [0xFF, 0xFF]

/-- The pages of FAULT PEEK and FAULT POP; `n` is the number of records in the queue before any removal (R189). -/
def FaultRec.page (x : FaultRec) (n : Nat) (field : Byte) : List Byte :=
  match field.toNat with
  | 0 => [byteOf x.kind.code, optByte (x.window.map Fin.val), optByte (x.port.map Fin.val)] ++ locationBytes x.location
      ++ [byteOf n]
  | _ => le32 x.stamp ++ [byteOf x.kind.code, byteOf n]

/-- FAULT PEEK (R170, R189). -/
def State.cmdFaultPeek (s : State) (r : LinkReq) : Reply :=
  if 1 < r.field.toNat then s.reply .badField
  else
    match s.faults.queue with
    | [] => s.reply .empty
    | x :: _ => s.replyData (x.page s.faults.queue.length r.field)

/-- FAULT POP (R170, R189). -/
def State.cmdFaultPop (s : State) (r : LinkReq) : Reply :=
  if 1 < r.field.toNat then s.reply .badField
  else
    match s.faults.queue with
    | [] => s.reply .empty
    | x :: rest => ⟨{ s with faults := { s.faults with queue := rest } }, .done, x.page s.faults.queue.length r.field⟩

/-- FAULT CLEAR (R170, R189). -/
def State.cmdFaultClear (s : State) : Reply :=
  ({ s with faults := { s.faults with queue := [], overrun := 0 } }).reply .done

/-! ### The meanings: each command is one whole frame -/

/-- STATUS (R182). -/
def execStatus (_r : LinkReq) (s : State) : Host.Outcome State Fault Refusal := .next (s.frame 0x01 State.cmdStatus)

/-- STAGE WRITE (R183). -/
def execStageWrite (r : LinkReq) (s : State) : Host.Outcome State Fault Refusal :=
  .next (s.frame 0x10 fun x => x.cmdStageWrite r)

/-- STAGE READ (R183). -/
def execStageRead (r : LinkReq) (s : State) : Host.Outcome State Fault Refusal :=
  .next (s.frame 0x11 fun x => x.cmdStageRead r)

/-- ENABLE (R18, R184). -/
def execEnable (r : LinkReq) (s : State) : Host.Outcome State Fault Refusal := .next (s.frame 0x20 fun x => x.cmdEnable r)

/-- DISABLE (R15, R184). -/
def execDisable (r : LinkReq) (s : State) : Host.Outcome State Fault Refusal := .next (s.frame 0x21 fun x => x.cmdDisable r)

/-- SUSPEND (R15, R184). -/
def execSuspend (r : LinkReq) (s : State) : Host.Outcome State Fault Refusal := .next (s.frame 0x22 fun x => x.cmdSuspend r)

/-- RESUME (R22, R184). -/
def execResume (r : LinkReq) (s : State) : Host.Outcome State Fault Refusal := .next (s.frame 0x23 fun x => x.cmdResume r)

/-- SESSION CLEAR (R24, R184). -/
def execSessionClear (_r : LinkReq) (s : State) : Host.Outcome State Fault Refusal :=
  .next (s.frame 0x24 State.cmdSessionClear)

/-- WINDOW READ (R185). -/
def execWindowRead (r : LinkReq) (s : State) : Host.Outcome State Fault Refusal :=
  .next (s.frame 0x30 fun x => x.cmdWindowRead r)

/-- BANK READ (R186). -/
def execBankRead (r : LinkReq) (s : State) : Host.Outcome State Fault Refusal := .next (s.frame 0x31 fun x => x.cmdBankRead r)

/-- CLAIM READ (R187). -/
def execClaimRead (r : LinkReq) (s : State) : Host.Outcome State Fault Refusal :=
  .next (s.frame 0x32 fun x => x.cmdClaimRead r)

/-- PORT READ (R142, R187). -/
def execPortRead (r : LinkReq) (s : State) : Host.Outcome State Fault Refusal := .next (s.frame 0x33 fun x => x.cmdPortRead r)

/-- COUNTER READ (R188). -/
def execCounterRead (r : LinkReq) (s : State) : Host.Outcome State Fault Refusal :=
  .next (s.frame 0x34 fun x => x.cmdCounterRead r)

/-- COUNTER CLEAR (R172, R188). -/
def execCounterClear (r : LinkReq) (s : State) : Host.Outcome State Fault Refusal :=
  .next (s.frame 0x35 fun x => x.cmdCounterClear r)

/-- FAULT PEEK (R170, R189). -/
def execFaultPeek (r : LinkReq) (s : State) : Host.Outcome State Fault Refusal :=
  .next (s.frame 0x40 fun x => x.cmdFaultPeek r)

/-- FAULT POP (R170, R189). -/
def execFaultPop (r : LinkReq) (s : State) : Host.Outcome State Fault Refusal := .next (s.frame 0x41 fun x => x.cmdFaultPop r)

/-- FAULT CLEAR (R170, R189). -/
def execFaultClear (_r : LinkReq) (s : State) : Host.Outcome State Fault Refusal := .next (s.frame 0x42 State.cmdFaultClear)

/-- TIME READ (R162, R188). -/
def execTimeRead (_r : LinkReq) (s : State) : Host.Outcome State Fault Refusal := .next (s.frame 0x50 State.cmdTimeRead)

/-- PRESCALE (R156, R188). -/
def execPrescale (r : LinkReq) (s : State) : Host.Outcome State Fault Refusal := .next (s.frame 0x51 fun x => x.cmdPrescale r)

/-- MASK WRITE (R171, R188). -/
def execMaskWrite (r : LinkReq) (s : State) : Host.Outcome State Fault Refusal :=
  .next (s.frame 0x52 fun x => x.cmdMaskWrite r)

end Sys2Proof.Machine
end

