-- ==== Sys2Proof/Machine/Serial.lean ====
section
/-! DEFINITION. The receiver bit by bit (R176 to R178): CSn falls, SCK rises, CSn rises; FRAME_ERROR, UNDEFINED_OPCODE and
CSN_RISE_WITHOUT_FRAME. -/

namespace Sys2Proof.Machine

open Sys2Proof

/-- The execution of a complete request by its opcode (R180): an opcode outside 11.3 is answered BADFIELD. -/
def State.runOpcode (s : State) (op : Byte) (r : LinkReq) : Reply :=
  match op.toNat with
  | 0x01 => s.cmdStatus
  | 0x10 => s.cmdStageWrite r
  | 0x11 => s.cmdStageRead r
  | 0x20 => s.cmdEnable r
  | 0x21 => s.cmdDisable r
  | 0x22 => s.cmdSuspend r
  | 0x23 => s.cmdResume r
  | 0x24 => s.cmdSessionClear
  | 0x30 => s.cmdWindowRead r
  | 0x31 => s.cmdBankRead r
  | 0x32 => s.cmdClaimRead r
  | 0x33 => s.cmdPortRead r
  | 0x34 => s.cmdCounterRead r
  | 0x35 => s.cmdCounterClear r
  | 0x40 => s.cmdFaultPeek r
  | 0x41 => s.cmdFaultPop r
  | 0x42 => s.cmdFaultClear
  | 0x50 => s.cmdTimeRead
  | 0x51 => s.cmdPrescale r
  | 0x52 => s.cmdMaskWrite r
  | _ => s.reply .badField

/-- CSn falls: a frame begins with count 0, unless none may begin until CSn has risen (R176, R177). -/
def Receiver.csnFall (x : Receiver) : Receiver :=
  if x.awaitRise then x else { x with inProgress := true, count := 0, bits := [] }

/-- SCK rises: in a frame the count rises by one, stopping at 255, and one SDI bit is shifted in (R176, R177). -/
def Receiver.sckRise (bit : Bool) (x : Receiver) : Receiver :=
  if x.inProgress then { x with count := min (x.count + 1) Config.clockCountMax, bits := x.bits ++ [bit] } else x

/-- The byte of eight bits, the most significant first (R177). -/
def byteOfBits (bits : List Bool) : Byte := bits.foldl (fun acc b => acc <<< 1 ||| (if b then 1#8 else 0#8)) 0

/-- The eight bits of a byte, the most significant first (R177). -/
def bitsOfByte (x : Byte) : List Bool := (List.range 8).map fun i => x.getLsbD (7 - i)

/-- Byte k of a frame's bits: bytes in order, byte 0 first (R177). -/
def frameByte (bits : List Bool) (k : Nat) : Byte := byteOfBits ((bits.drop (8 * k)).take 8)

/-- The request word of a frame's 64 bits (R177). -/
def wordOfBits (bits : List Bool) : BitVec 64 := wordOfBytes ((List.range 8).map (frameByte bits))

/-- The bits of a request word in the order they travel (R177). -/
def bitsOfWord (w : BitVec 64) : List Bool := (List.range 8).flatMap fun k => bitsOfByte (w.extractLsb' (8 * k) 8)

/-- The answer of a discarded frame (R178). -/
def Answer.frameError : Answer := ⟨.frameErr, 0, dataOf []⟩

/-- CSn rises (R176 to R178): where no frame could begin since the release of RSTn, none is in progress, or the count is 0, there is
no frame and nothing is executed; a count of 64 delivers a complete request; any other count is discarded and the latch set to
FRAMEERR, whatever BUSY is. -/
def State.csnRise (s : State) : State :=
  let x := s.link.receiver
  if x.awaitRise || !x.inProgress || decide (x.count = 0) then s.csnRisen
  else if x.count = Config.frameClocks then
    (s.frameEnded x.count).executeRequest (wordOpcode (wordOfBits x.bits))
      fun t => t.runOpcode (wordOpcode (wordOfBits x.bits)) (wordRequest (wordOfBits x.bits))
  else (s.frameEnded x.count).setLatch .frameError

/-- A change of the receiver. -/
def State.modReceiver (s : State) (f : Receiver → Receiver) : State :=
  { s with link := { s.link with receiver := f s.link.receiver } }

/-- CSn falls, SCK rises once for each bit, and CSn rises. -/
def State.serialFrame (s : State) (bits : List Bool) : State :=
  ((s.modReceiver fun x => bits.foldl (fun x b => x.sckRise b) x.csnFall)).csnRise

/-- FRAME_ERROR (R178). The bits are those the frame's clocks shifted in; the term is well-formed when their number is neither
0 nor 64, and with those numbers it runs as R178 and R177 say. While RSTn is low nothing is received (R176). -/
def execFrameError (bits : List Bool) (s : State) : Host.Outcome State Fault Refusal :=
  .next (if s.rstn then s.serialFrame bits else s)

/-- UNDEFINED_OPCODE (R180). With an opcode of 11.3, which the row excludes, the frame runs as that command's. -/
def execUndefinedOpcode (op : Byte) (r : LinkReq) (s : State) : Host.Outcome State Fault Refusal :=
  .next (s.frame op fun x => x.runOpcode op r)

/-- CSN_RISE_WITHOUT_FRAME (R176, R178): nothing is executed, the answer latch keeps its contents, and the receiver may begin a
frame at the next CSn fall. While RSTn is low the link takes no part (R176). -/
def execCsnRiseWithoutFrame (s : State) : Host.Outcome State Fault Refusal := .next (if s.rstn then s.csnRisen else s)

end Sys2Proof.Machine
end

