-- ==== Sys2Proof/Machine/Time.lean ====
section
/-! DEFINITION. The time base and the deadlines: STAMP_INCREMENT, the REFCLK cycle that passes when no command waits,
OPEN_DEADLINE, CLAIM_DEADLINE and HOLD_DEADLINE (chapter 9). -/

namespace Sys2Proof.Machine

open Sys2Proof

/-! ### Taking a deadline (R159) -/

/-- The open deadline of a window is taken if it is due (R43, R44, R159). -/
def State.takeOpen (s : State) (w : WinId) : State := if s.isDue (s.win w).prod.opendl then s.openExpiry w else s

/-- The claim deadline of a port in a window is taken if it is due (R64, R65, R109, R110, R159). -/
def State.takeClaim (s : State) (w : WinId) (p : PortId) : State :=
  if s.isDue (s.claim w p).claimdl then s.claimDeadlineTaken w p else s

/-- The held entry is answered REFUSED at its hold deadline; the window that held it counts REFUSALS and EXPIRIES, a producer
write sets LASTREFUSED, and HOLD_EXPIRED is offered (R136, R27, R89). -/
def State.holdExpiry (s : State) (p : PortId) (w : WinId) (e : Entry) : State :=
  let s1 := s.modEntries p (modFirst Entry.isHeld (Entry.answer .refused []))
  let s2 := (s1.countRefusal w).countExpiry w
  let s3 := if e.txn.kind = .write ∧ (s.cfg w).producer = p then s2.modProd w fun r => { r with lastrefused := true } else s2
  s3.offer .holdExpired (some w) (some p) (some (startGranule (s.cfg w) e.txn))

/-- The hold deadline of a port's held entry is taken if it is due (R136, R159). -/
def State.takeHold (s : State) (p : PortId) : State :=
  match s.heldEntry p with
  | none => s
  | some e =>
    match e.holdwin with
    | some w => if s.isDue e.holddl then s.holdExpiry p w e else s
    | none => s

/-! ### The deadlines of the part (R158, R160) -/

/-- A deadline: the open deadline of a window, the claim deadline of a port in a window, the hold deadline of the entry a port
holds (R158). -/
inductive Deadline where
  | openOf (w : WinId)
  | claimOf (w : WinId) (p : PortId)
  | holdOf (p : PortId)
  deriving DecidableEq, Repr

/-- The command that is the taking of a deadline as an event of its owner (R159). -/
def Deadline.command : Deadline → Instr
  | .openOf w => .openDeadline w
  | .claimOf w p => .claimDeadline w p
  | .holdOf p => .holdDeadline p

/-- The deadline whose taking a command is. -/
def deadlineOf : Instr → Option Deadline
  | .openDeadline w => some (.openOf w)
  | .claimDeadline w p => some (.claimOf w p)
  | .holdDeadline p => some (.holdOf p)
  | .rstnAssert | .rstnRelease _ | .accept _ _ | .dispatch _ | .responseReturn _ | .grant | .memoryCompletion _ _
  | .stampIncrement | .frameError _ | .undefinedOpcode _ _ | .csnRiseWithoutFrame => none
  | .status _ | .stageWrite _ | .stageRead _ | .enable _ | .disable _ | .suspend _ | .resume _ | .sessionClear _ => none
  | .windowRead _ | .bankRead _ | .claimRead _ | .portRead _ | .counterRead _ | .counterClear _ => none
  | .faultPeek _ | .faultPop _ | .faultClear _ | .timeRead _ | .prescale _ | .maskWrite _ => none

/-- The deadlines whose own commands stand at the front of a queue, before any other command. -/
def deadlinesNamed : List Instr → List Deadline
  | [] => []
  | c :: rest =>
    match deadlineOf c with
    | some d => d :: deadlinesNamed rest
    | none => []

/-- Every deadline of the part: open deadlines, then claim deadlines, then hold deadlines, each lowest-numbered first. -/
def allDeadlines : List Deadline :=
  (List.finRange 16).map Deadline.openOf
    ++ ((List.finRange 16).flatMap fun w => (List.finRange 4).map (Deadline.claimOf w))
    ++ (List.finRange 4).map Deadline.holdOf

/-- A deadline is taken if it is due (R159). -/
def State.takeDeadline (s : State) : Deadline → State
  | .openOf w => s.takeOpen w
  | .claimOf w p => s.takeClaim w p
  | .holdOf p => s.takeHold p

/-- Every deadline that is due at this count is taken, each as an event of its owner (R159). Those whose own commands come next in
the queue are left to these commands, which are part of the same increment: no other command comes between, and their order is
the order of the takings, which R160 leaves free. The others are taken here, in the order of `allDeadlines` (log 7). -/
def State.takeDue (s : State) : State :=
  (allDeadlines.filter fun d => !(deadlinesNamed s.pending).contains d).foldl State.takeDeadline s

/-! ### The increment and the REFCLK cycle (R155, R156) -/

/-- The increment: the count rises by one, from 2^32 − 1 to 0, the phase count returns to 0, and the stored P governs the
interval that begins (R155, R156). -/
def TimeBase.tick (x : TimeBase) : TimeBase :=
  { x with stamp := x.stamp + 1, phase := 0, pNow := x.p }

/-- The phase count reaches P: the count rises, and in that event every deadline due at the new count is taken (R156, R159). -/
def State.increment (s : State) : State := { s with time := s.time.tick }.takeDue

/-- One REFCLK cycle: the phase count rises, and at P the counter increments. While RSTn is low the counter does not count
(R155, R156). -/
def State.refclkCycle (s : State) : State :=
  if s.rstn then
    if s.time.phase + 1 < s.time.pNow then { s with time := { s.time with phase := s.time.phase + 1 } } else s.increment
  else s

/-- STAMP_INCREMENT (R156). While RSTn is low the counter holds 0 and does not count (R155). -/
def execStampIncrement (s : State) : Host.Outcome State Fault Refusal := .next (if s.rstn then s.increment else s)

/-- OPEN_DEADLINE (R43, R44). A deadline that is not armed, or not due, is not taken (R42, R159). -/
def execOpenDeadline (w : WinId) (s : State) : Host.Outcome State Fault Refusal :=
  .next (if s.rstn then s.takeOpen w else s)

/-- CLAIM_DEADLINE (R64, R65, R109, R110). A deadline that is not armed, or not due, is not taken. -/
def execClaimDeadline (w : WinId) (p : PortId) (s : State) : Host.Outcome State Fault Refusal :=
  .next (if s.rstn then s.takeClaim w p else s)

/-- HOLD_DEADLINE (R136). A deadline that is not armed, or not due, is not taken. -/
def execHoldDeadline (p : PortId) (s : State) : Host.Outcome State Fault Refusal :=
  .next (if s.rstn then s.takeHold p else s)

end Sys2Proof.Machine
end

