-- ==== Sys2Proof/Machine/Dispatch.lean ====
section
/-! DEFINITION. One arm per command: its meaning. -/

namespace Sys2Proof.Machine

open Sys2Proof

/-- The effect of a command on everything but the queue of waiting commands. -/
def exec (i : Instr) (s : State) : Host.Outcome State Fault Refusal :=
  match i with
  | .rstnAssert => Sys2Proof.Machine.execRstnAssert s
  | .rstnRelease csnLow => Sys2Proof.Machine.execRstnRelease csnLow s
  | .accept p t => Sys2Proof.Machine.execAccept p t s
  | .dispatch p => Sys2Proof.Machine.execDispatch p s
  | .responseReturn p => Sys2Proof.Machine.execResponseReturn p s
  | .grant => Sys2Proof.Machine.execGrant s
  | .memoryCompletion ok rdata => Sys2Proof.Machine.execMemoryCompletion ok rdata s
  | .stampIncrement => Sys2Proof.Machine.execStampIncrement s
  | .openDeadline w => Sys2Proof.Machine.execOpenDeadline w s
  | .claimDeadline w p => Sys2Proof.Machine.execClaimDeadline w p s
  | .holdDeadline p => Sys2Proof.Machine.execHoldDeadline p s
  | .frameError bits => Sys2Proof.Machine.execFrameError bits s
  | .undefinedOpcode op r => Sys2Proof.Machine.execUndefinedOpcode op r s
  | .status r => Sys2Proof.Machine.execStatus r s
  | .stageWrite r => Sys2Proof.Machine.execStageWrite r s
  | .stageRead r => Sys2Proof.Machine.execStageRead r s
  | .enable r => Sys2Proof.Machine.execEnable r s
  | .disable r => Sys2Proof.Machine.execDisable r s
  | .suspend r => Sys2Proof.Machine.execSuspend r s
  | .resume r => Sys2Proof.Machine.execResume r s
  | .sessionClear r => Sys2Proof.Machine.execSessionClear r s
  | .windowRead r => Sys2Proof.Machine.execWindowRead r s
  | .bankRead r => Sys2Proof.Machine.execBankRead r s
  | .claimRead r => Sys2Proof.Machine.execClaimRead r s
  | .portRead r => Sys2Proof.Machine.execPortRead r s
  | .counterRead r => Sys2Proof.Machine.execCounterRead r s
  | .counterClear r => Sys2Proof.Machine.execCounterClear r s
  | .faultPeek r => Sys2Proof.Machine.execFaultPeek r s
  | .faultPop r => Sys2Proof.Machine.execFaultPop r s
  | .faultClear r => Sys2Proof.Machine.execFaultClear r s
  | .timeRead r => Sys2Proof.Machine.execTimeRead r s
  | .prescale r => Sys2Proof.Machine.execPrescale r s
  | .maskWrite r => Sys2Proof.Machine.execMaskWrite r s
  | .csnRiseWithoutFrame => Sys2Proof.Machine.execCsnRiseWithoutFrame s

end Sys2Proof.Machine
end

