-- ==== Sys2Proof/Safety.lean ====
section
/-! DEFINITION. What counts as a safe state: the limits of the part's lists (R126, R143, R146, R166), the order of an accepted
list (R126, R128), the pool's agreement with the windows (R8, R10), BUSY's agreement with the drains (R181), the ranges of the
time base (R156) and of NEXTSEQ (R11), the sets held in order (0.5), and the agreement of bank states, order list and claim records
in an ACTIVE window (R25, R26, R50, R87, R88, R100). The statements say that every step keeps them. -/

namespace Sys2Proof.Machine

open Sys2Proof

/-! ### Limits of the lists -/

/-- An accepted list holds at most 8 entries (R126), the outstanding-issue list at most 32 (R146), the fault queue at most 16
records (R166). -/
structure State.WithinLimits (s : State) : Prop where
  accepted : ∀ p, (s.port p).entries.length ≤ Config.acceptedMax
  outstanding : s.mport.outstanding.length ≤ Config.outstandingMax
  faults : s.faults.queue.length ≤ Config.faultMax

/-! ### The order of an accepted list -/

/-- The entry is DISPATCHED or ANSWERED. -/
def Entry.isSettled (e : Entry) : Bool := decide (e.state = .dispatched) || decide (e.state = .answered)

/-- A list in the order of R128: settled entries first, then at most one HELD entry, then WAITING entries. -/
def inAcceptedOrder : List Entry → Bool
  | [] => true
  | e :: rest =>
    if e.isSettled then inAcceptedOrder rest
    else rest.all Entry.isWaiting

/-- Every accepted list is in that order. -/
def State.PortsOrdered (s : State) : Prop := ∀ p, inAcceptedOrder (s.port p).entries = true

/-! ### The pool -/

/-- No two records describe one bank, and a bank has a record exactly while its window is not OFF and its index is below the
window's BANKS (R8, R10). -/
structure State.PoolAgrees (s : State) : Prop where
  oneRecord : ∀ i j : RecId, s.pool[i].owner = s.pool[j].owner → s.pool[i].owner ≠ none → i = j
  owned : ∀ w b, (s.recordOf w b).isSome = true ↔ (s.win w).life ≠ .off ∧ b.val < (s.cfg w).bankCount

/-! ### The window records -/

/-- The record of window w passes a check of the ENABLE validation (R16, R17). -/
def State.PassesCheck (s : State) (w : WinId) : Reason → Prop
  | .length =>
    1 ≤ (s.cfg w).granules.toNat ∧ (s.cfg w).granules.toNat ≤ 1024 ∧
    (s.cfg w).base.toNat + (s.cfg w).granules.toNat * 64 ≤ 2 ^ 40 ∧
    ∀ k : Fin 7, k.val + 1 < min (s.cfg w).banks.toNat 8 →
      ((s.cfg w).shadow[k]).toNat + (s.cfg w).granules.toNat * 64 ≤ 2 ^ 40
  | .align =>
    (s.cfg w).base.toNat % 64 = 0 ∧
    ∀ k : Fin 7, k.val + 1 < min (s.cfg w).banks.toNat 8 → ((s.cfg w).shadow[k]).toNat % 64 = 0
  | .bankCount =>
    ((s.cfg w).mode = .snapshot → 3 ≤ (s.cfg w).banks.toNat ∧ (s.cfg w).banks.toNat ≤ 6) ∧
    ((s.cfg w).mode = .queue → 1 ≤ (s.cfg w).banks.toNat ∧ (s.cfg w).banks.toNat ≤ 8)
  | .ports =>
    hasPort (s.cfg w).consumers (s.cfg w).producer = false ∧
    ((s.cfg w).mode = .snapshot →
      1 ≤ portCount (s.cfg w).consumers ∧ portCount (s.cfg w).consumers ≤ min 3 ((s.cfg w).banks.toNat - 2)) ∧
    ((s.cfg w).mode = .queue → portCount (s.cfg w).consumers = 1)
  | .limits => (s.cfg w).holdlim ≠ 0
  | .overlapWindow =>
    ∀ x, x ≠ w → (s.win x).life ≠ .off → ((s.cfg w).range 0).overlaps ((s.cfg x).range 0) = false
  | .overlapShadow =>
    (∀ x, x ≠ w → (s.win x).life ≠ .off →
      ∀ a b : BankId, a.val < (s.cfg w).bankCount → b.val < (s.cfg x).bankCount →
        ((s.cfg w).range a.val).overlaps ((s.cfg x).range b.val) = false) ∧
    ∀ a b : BankId, a < b → b.val < (s.cfg w).bankCount →
      ((s.cfg w).range a.val).overlaps ((s.cfg w).range b.val) = false
  | .pool => (s.cfg w).banks.toNat ≤ (Finset.univ.filter fun i : RecId => s.pool[i].owner = none).card

/-! ### BUSY and the drains -/

/-- The long-operation set holds exactly the draining windows, and BUSY is on exactly when it is not empty (R181). -/
structure State.BusyAgrees (s : State) : Prop where
  draining : ∀ w, w ∈ s.link.longOp.windows ↔ (s.win w).life.draining = true
  busy : s.link.busy = true ↔ s.link.longOp.windows ≠ []

/-! ### Ranges -/

/-- P is 1 to 250, stored and in force, and the phase count is below the P in force (R156). -/
structure TimeBase.InRange (x : TimeBase) : Prop where
  stored : 1 ≤ x.p ∧ x.p ≤ Config.prescalerMax
  inForce : 1 ≤ x.pNow ∧ x.pNow ≤ Config.prescalerMax
  phase : x.phase < x.pNow

/-- NEXTSEQ of every window is 1 to 65535 (R11). -/
def State.SeqsValid (s : State) : Prop := ∀ w, (s.win w).prod.nextseq ≠ 0

/-- COVER of every record is in increasing order without repeats (R34). -/
def State.CoversOrdered (s : State) : Prop := ∀ i : RecId, s.pool[i].cover.Pairwise (· < ·)

/-! ### The banks and claims of a window -/

/-- The state is one of a producer bank (R25, R87). -/
def BankState.isProducer : BankState → Bool
  | .filling => true
  | .committing => true
  | .merging => true
  | .expiring => true
  | .free => false
  | .current => false
  | .held => false
  | .queued => false

/-- The bank states of each mode: the seven of R25 in SNAPSHOT, the five of R87 in QUEUE. -/
def BankState.inMode (m : Mode) (x : BankState) : Bool :=
  match x with
  | .free => true
  | .filling => true
  | .committing => true
  | .expiring => true
  | .merging => decide (m = .snapshot)
  | .current => decide (m = .snapshot)
  | .held => decide (m = .snapshot)
  | .queued => decide (m = .queue)

/-- The bank states of a window: each is one of its mode; the producer record names exactly the producer bank; at most one bank is CURRENT; a HELD bank
has a holder; an armed open deadline belongs to a FILLING bank; the order list holds each QUEUED bank exactly once and no other
bank (R25, R26, R27, R42, R87, R88). -/
structure State.BanksAgree (s : State) (w : WinId) : Prop where
  modes : ∀ b, (s.bank w b).state.inMode (s.cfg w).mode = true
  producer : ∀ b, (s.bank w b).state.isProducer = true ↔ (s.win w).prod.bank = some b
  oneCurrent : ∀ a b, (s.bank w a).state = .current → (s.bank w b).state = .current → a = b
  heldHeld : ∀ b, (s.bank w b).state = .held → (s.bank w b).holders ≠ 0
  deadline : (s.win w).prod.opendl ≠ none → ∃ b, (s.win w).prod.bank = some b ∧ (s.bank w b).state = .filling
  queued : ∀ b, b ∈ (s.win w).order ↔ (s.bank w b).state = .queued
  queuedOnce : (s.win w).order.Nodup

/-- A claim record without a claim: no deadline, no read in flight, CLOSING and DEFERRED off (R49, R60, R106, R109). -/
structure Claim.Idle (k : Claim) : Prop where
  bank : k.bank = none
  claimdl : k.claimdl = none
  reads : k.reads = 0
  closing : k.closing = false
  deferred : k.deferred = false

/-- The claim records of a window agree with its banks. Only consumers hold claims. In SNAPSHOT a claimed bank is CURRENT or HELD, and
a port is in HOLDERS of a bank exactly when its claim is on that bank (R50, R60). In QUEUE a claim is on the head of the order list,
and HOLDERS stays empty (R87, R100). -/
structure State.ClaimsAgree (s : State) (w : WinId) : Prop where
  consumer : ∀ p, (s.claim w p).bank ≠ none → hasPort (s.cfg w).consumers p = true
  idle : ∀ p, (s.claim w p).bank = none → (s.claim w p).Idle
  image : (s.cfg w).mode = .snapshot → ∀ p b, (s.claim w p).bank = some b →
    (s.bank w b).state = .current ∨ (s.bank w b).state = .held
  holders : (s.cfg w).mode = .snapshot → ∀ p b, hasPort (s.bank w b).holders p = true ↔ (s.claim w p).bank = some b
  head : (s.cfg w).mode = .queue → ∀ p b, (s.claim w p).bank = some b → (s.win w).order.head? = some b
  noHolders : (s.cfg w).mode = .queue → ∀ b, (s.bank w b).holders = 0

/-- The counts of a window's banks, which R26 and R88 derive from the other properties. In SNAPSHOT a window without a producer bank
has a FREE bank (the fourth property of R26), and the order list is empty (R88). In QUEUE the QUEUED, the FREE and the producer
banks make up BANKS (R88). -/
structure State.BanksCounted (s : State) (w : WinId) : Prop where
  freeBank : (s.cfg w).mode = .snapshot → (s.win w).prod.bank = none →
    ∃ b : BankId, b.val < (s.cfg w).bankCount ∧ (s.bank w b).state = .free
  noOrder : (s.cfg w).mode = .snapshot → (s.win w).order = []
  sum : (s.cfg w).mode = .queue →
    (s.win w).order.length + s.freeCount w + (if (s.win w).prod.bank = none then 0 else 1) = (s.cfg w).bankCount

/-- The window is as the end of a drain leaves it: every bank FREE and without a holder, no producer bank, no open deadline, an empty
order list, no claim (R21). -/
structure State.BanksClear (s : State) (w : WinId) : Prop where
  free : ∀ b, (s.bank w b).state = .free
  holders : ∀ b, (s.bank w b).holders = 0
  bank : (s.win w).prod.bank = none
  opendl : (s.win w).prod.opendl = none
  order : (s.win w).order = []
  claims : ∀ p, (s.claim w p).Idle

/-- The merge jobs and the bank states of the whole part: of the jobs not aborted, no two are of one window, and each is of an
ACTIVE window whose bank DEST is MERGING (R69); the record of a window that is not OFF passes every check of ENABLE but that of the
pool, so the ranges of these windows are pairwise disjoint (R16, R17); ACTIVE windows' banks and claims agree with their records and the banks add up, and
SUSPENDED windows' are clear. -/
structure State.ExchangeSound (s : State) : Prop where
  pool : s.PoolAgrees
  records : ∀ w, (s.win w).life ≠ .off → ∀ y, y ≠ .pool → s.PassesCheck w y
  active : ∀ w, (s.win w).life = .active → s.BanksAgree w ∧ s.ClaimsAgree w ∧ s.BanksCounted w
  suspended : ∀ w, (s.win w).life = .suspended → s.BanksClear w
  jobs : ∀ j ∈ s.engine.jobs, j.aborted = false →
    (s.win j.window).life = .active ∧ (s.bank j.window j.dest).state = .merging
  oneJob : (s.engine.jobs.filter fun j => !j.aborted).Pairwise fun a b => a.window ≠ b.window

/-- A run is safe when every state of it is within the limits, ordered, and sound. -/
structure State.Safe (s : State) : Prop where
  limits : s.WithinLimits
  ordered : s.PortsOrdered
  busy : s.BusyAgrees
  sound : s.ExchangeSound

/-! ### The situations that the statements speak of -/

/-- A deadline is armed and due at the present count (R158, R159). -/
def State.Due (s : State) : Deadline → Prop
  | .openOf w => (s.win w).prod.opendl = some s.time.stamp
  | .claimOf w p => (s.claim w p).claimdl = some s.time.stamp
  | .holdOf p => ∃ e ∈ (s.port p).entries, e.state = .held ∧ e.holddl = some s.time.stamp

/-- Each port has at most one HELD entry, and a HELD entry names the window that holds it (R126). -/
def State.HoldsNamed (s : State) : Prop :=
  ∀ p, ((s.port p).entries.filter Entry.isHeld).length ≤ 1 ∧
    ∀ e ∈ (s.port p).entries, e.state = .held → e.holdwin ≠ none

/-- The state with the stamp counter incremented and the phase count at 0, the stored P in force, and all else as it was (R155,
R156). -/
def State.counted (s : State) : State :=
  { s with time := { stamp := s.time.stamp + 1, p := s.time.p, pNow := s.time.p, phase := 0 } }

/-- Port p is about to dispatch entry e: RSTn is high, no entry is HELD, and e is the oldest WAITING one (R128). -/
structure State.Dispatches (s : State) (p : PortId) (e : Entry) : Prop where
  running : s.rstn = true
  noHold : ∀ x ∈ (s.port p).entries, x.state ≠ .held
  oldest : (s.port p).entries.find? Entry.isWaiting = some e

/-- A transaction touches no shadow range of a window that is not OFF (R130, test 2). -/
def State.ClearOfShadows (s : State) (t : Txn) : Prop :=
  ∀ (w : WinId) (k : BankId), (s.win w).life ≠ .off → 1 ≤ k.val → k.val < (s.cfg w).bankCount →
    touchesRange t (s.cfg w) k.val = false

/-- A transaction is well-formed and lies wholly within the window range of one window that is not OFF, touching no other range
of a window that is not OFF (R129, R130, tests 1 to 3 passed). -/
structure State.LiesIn (s : State) (t : Txn) (w : WinId) : Prop where
  formed : malformed t = false
  shadows : s.ClearOfShadows t
  within : withinWindow t (s.cfg w) = true
  live : (s.win w).life ≠ .off
  alone : ∀ x, x ≠ w → (s.win x).life ≠ .off → touchesRange t (s.cfg x) 0 = false

/-- Port p dispatches e to an ACTIVE window as its producer (R130, test 6). -/
structure State.ProducerDispatch (s : State) (p : PortId) (e : Entry) (w : WinId) : Prop where
  dispatches : s.Dispatches p e
  lies : s.LiesIn e.txn w
  active : (s.win w).life = .active
  role : (s.cfg w).producer = p

/-- Port p dispatches e to an ACTIVE window as one of its consumers (R130, test 6). -/
structure State.ConsumerDispatch (s : State) (p : PortId) (e : Entry) (w : WinId) : Prop where
  dispatches : s.Dispatches p e
  lies : s.LiesIn e.txn w
  active : (s.win w).life = .active
  role : hasPort (s.cfg w).consumers p = true
  notProducer : (s.cfg w).producer ≠ p

/-- The next completion is that of issue o, the last part of entry e of port p (R138, R150). -/
structure State.LastPart (s : State) (p : PortId) (o : Issue) (e : Entry) : Prop where
  running : s.rstn = true
  oldest : s.mport.outstanding.head? = some o
  owner : o.owner = requesterOf p
  entry : (s.port p).entries.find? (Entry.isRef o.ref) = some e
  last : e.parts = 1
  parts : o.kind = e.txn.kind

/-- The last part of a producer write steered into bank b of window w. -/
structure State.LastWrite (s : State) (p : PortId) (o : Issue) (e : Entry) (w : WinId) (b : BankId) : Prop where
  last : s.LastPart p o e
  write : e.txn.kind = .write
  window : o.window = some w
  dest : e.dest = some b
  good : e.errored = false
  owned : (s.recordOf w b).isSome = true

/-- The last part of a read of window w. -/
structure State.LastRead (s : State) (p : PortId) (o : Issue) (e : Entry) (w : WinId) : Prop where
  last : s.LastPart p o e
  read : e.txn.kind = .read
  window : o.window = some w

/-- The next completion is that of an operation of the head job j of the merge engine. -/
structure State.EngineNext (s : State) (o : Issue) (j : Job) : Prop where
  running : s.rstn = true
  oldest : s.mport.outstanding.head? = some o
  owner : o.owner = engineRequester
  window : o.window = some j.window
  head : s.engine.jobs.head? = some j

/-- The link takes a request now: a frame is received and BUSY is off (R176, R180). -/
structure State.LinkReady (s : State) : Prop where
  receives : s.receives = true
  idle : s.link.busy = false

/-- Bank b is the lowest-index FREE bank of window w (R29). -/
structure State.LowestFree (s : State) (w : WinId) (b : BankId) : Prop where
  inWindow : b.val < (s.cfg w).bankCount
  free : (s.bank w b).state = .free
  lowest : ∀ a, a < b → (s.bank w a).state ≠ .free
  owned : (s.recordOf w b).isSome = true

/-- Window w has no FREE bank. -/
def State.NoFree (s : State) (w : WinId) : Prop := ∀ b : BankId, b.val < (s.cfg w).bankCount → (s.bank w b).state ≠ .free

/-- Bank b is the CURRENT bank of window w (R25, R26). -/
structure State.IsCurrent (s : State) (w : WinId) (b : BankId) : Prop where
  inWindow : b.val < (s.cfg w).bankCount
  current : (s.bank w b).state = .current
  only : ∀ a, (s.bank w a).state = .current → a = b
  owned : (s.recordOf w b).isSome = true

/-- Window w has no CURRENT bank. -/
def State.NoCurrent (s : State) (w : WinId) : Prop := ∀ b, (s.bank w b).state ≠ .current

/-! ### What a command changes -/

/-- No port but p has changed. -/
def State.PortsBut (s t : State) (p : PortId) : Prop := ∀ q, q ≠ p → t.port q = s.port q

/-- The record of bank b of window w has become r, and no other record of the pool has changed. -/
structure State.ChangesBank (s t : State) (w : WinId) (b : BankId) (r : BankRec) : Prop where
  bank : t.bank w b = r
  others : ∀ i : RecId, s.recordOf w b ≠ some i → t.pool[i] = s.pool[i]

/-- Port p's oldest WAITING entry has been answered at its dispatch; no other port has changed (R133). An entry answered REFUSED holds an
empty DATA, which no response returns (R139, log 14). -/
structure State.AnswersEntry (s t : State) (p : PortId) (code : Code) (data : List Byte) : Prop where
  port : t.port p =
    { s.port p with
      entries := modFirst Entry.isWaiting
        (fun e => { e with state := .answered, code := some code, data := data, holdwin := none, holddl := none })
        (s.port p).entries }
  others : s.PortsBut t p

/-- Port p's oldest WAITING entry has been sent to memory: DISPATCHED, with its parts at the tail of the port's request queue;
no other port and no other queue has changed (R133, R143). -/
structure State.SendsEntry (s t : State) (p : PortId) (parts : List MemReq) (data : List Byte) (dest : Option BankId)
    (trigger : Bool) : Prop where
  port : t.port p =
    { s.port p with
      entries := modFirst Entry.isWaiting
        (fun e => { e with state := .dispatched, parts := parts.length, data := data, dest := dest, trigger := trigger })
        (s.port p).entries }
  others : s.PortsBut t p
  queued : t.mport =
    { s.mport with queues := s.mport.queues.set (requesterOf p).val (s.mport.queues[requesterOf p] ++ parts) }

/-- Port p's oldest WAITING entry is HELD by window w until the present stamp plus HOLDLIM; no other port has changed (R134). -/
structure State.HoldsEntry (s t : State) (p : PortId) (w : WinId) : Prop where
  port : t.port p =
    { s.port p with
      entries := modFirst Entry.isWaiting
        (fun e => { e with state := .held, holdwin := some w, holddl := some (s.time.stamp + (s.cfg w).holdlim.setWidth 32) })
        (s.port p).entries }
  others : s.PortsBut t p

/-- A read with the given parts counts one, or none when it has no part (R13, R54, R103). -/
def inFlight (parts : List MemReq) : Nat := if parts = [] then 0 else 1

/-- Port p's oldest WAITING entry, a read, is served: answered OKAY when it has no memory part, else sent to memory; no other
port has changed (R54, R103, R133). -/
structure State.ServesRead (s t : State) (p : PortId) (parts : List MemReq) (data : List Byte) : Prop where
  answered : parts = [] → s.AnswersEntry t p .okay data ∧ t.mport = s.mport
  sent : parts ≠ [] → s.SendsEntry t p parts data none false

/-- The release event of window w has reached port p (R135): an entry it holds is WAITING again, without a hold deadline. -/
def PortUnit.afterRelease (u : PortUnit) (w : WinId) : PortUnit :=
  { u with
    entries := u.entries.map fun e =>
      if e.state = .held ∧ e.holdwin = some w then { e with state := .waiting, holdwin := none, holddl := none } else e }

/-- The completion of issue o, the last part of entry e of port p, has reached the port: the entry is ANSWERED, the issue has left
the outstanding-issue list, and no other port has changed (R138, R150). -/
structure State.CompletesEntry (s t : State) (p : PortId) (o : Issue) (ok : Bool) (rdata : Burst) : Prop where
  port : t.port p =
    { s.port p with
      entries := modFirst (Entry.isRef o.ref)
        (fun e =>
          { e with
            parts := 0
            errored := e.errored || !ok
            data := if o.kind = .read then placeBytes o.pos o.bytes rdata e.data else e.data
            state := .answered
            code := some (if e.errored || !ok then .fault else .okay) })
        (s.port p).entries }
  others : s.PortsBut t p
  outstanding : t.mport = { s.mport with outstanding := s.mport.outstanding.tail }

/-- The completion of the last part of a producer write has been recorded: WINFLIGHT and OUTSTANDING one less; answered OK, the
granules it stored have joined COVER, answered ERROR, POISON is set and MEM_WRITE_ERROR offered (R34, R35). -/
structure State.RecordsWrite (s t : State) (p : PortId) (o : Issue) (e : Entry) (w : WinId) (b : BankId) (ok : Bool)
    (rdata : Burst) : Prop where
  entry : s.CompletesEntry t p o ok rdata
  bank : ∃ cover, s.ChangesBank t w b
    { s.bank w b with
      winflight := (s.bank w b).winflight - 1, poison := (s.bank w b).poison || !ok, cover := cover }
  covered : ∀ g, g ∈ (t.bank w b).cover ↔
    g ∈ (s.bank w b).cover ∨ (ok = true ∧ g ∈ granulesTouched (s.cfg w) e.txn ∧ coversGranule (s.cfg w) e.txn g = true)
  window : t.windows = s.windows.set w.val { s.win w with outstanding := (s.win w).outstanding - 1 }
  fault : t.faults =
    if ok then s.faults
    else (s.offer .memWriteError (some w) (some (s.cfg w).producer) (some (startGranule (s.cfg w) e.txn))).faults
  rest : { t with ports := s.ports, windows := s.windows, pool := s.pool, mport := s.mport, faults := s.faults } = s

/-- The completion of the last part of a read of window w has been recorded, with the claim record of the port given after it:
OUTSTANDING one less, and MEM_READ_ERROR offered when a part failed (R55, R104, R47, R138). -/
structure State.RecordsRead (s t : State) (p : PortId) (o : Issue) (e : Entry) (w : WinId) (k : Claim) (ok : Bool)
    (rdata : Burst) : Prop where
  entry : s.CompletesEntry t p o ok rdata
  window : t.windows = s.windows.set w.val
    { s.win w with outstanding := (s.win w).outstanding - 1, claims := (s.win w).claims.set p.val k }
  fault : t.faults =
    if e.errored || !ok then (s.offer .memReadError (some w) (some p) (some (startGranule (s.cfg w) e.txn))).faults
    else s.faults
  rest : { t with ports := s.ports, windows := s.windows, mport := s.mport, faults := s.faults } = s

/-- A complete request has been executed: the answer latch holds the answer, the receiver is idle, and SDO carried the former
answer (R177, R179). -/
structure State.Answered (s t : State) (op : Byte) (x : Status) (data : List Byte) : Prop where
  latch : t.link.latch = ⟨x, op, dataOf data⟩
  receiver : t.link.receiver = .idle
  sdo : t.out = { s.out with sdo := some ⟨s.link.latch, Config.frameClocks⟩ }

/-- State t without what the frame itself leaves: the answer latch, the receiver and the record of SDO as in s. -/
def State.apartFromAnswer (s t : State) : State :=
  { t with link := { t.link with latch := s.link.latch, receiver := s.link.receiver }, out := s.out }

end Sys2Proof.Machine
end

