-- ==== Sys2Proof/WellFormed.lean ====
section
/-! DEFINITION. Which command terms stand for something the part can be given. The meanings are total, so an ill-formed term
is still run (the docstrings say as what); these checks say which terms the specification's words speak of. -/

namespace Sys2Proof

/-- A WRITE enables no byte beyond its span and carries none; a READ carries no data and no enables (0.5). -/
def Txn.wellFormed (t : Txn) : Bool :=
  match t.kind with
  | .write => decide (t.wen >>> t.bytes = 0#128) && decide (t.wdata >>> (8 * t.bytes) = 0#1024)
  | .read => decide (t.wen = 0#128) && decide (t.wdata = 0#1024)

/-- Whether a term stands for its row: a FRAME_ERROR has a clock count other than 0 and 64 (R178), an UNDEFINED_OPCODE an
opcode outside 11.3 (R180), an ACCEPT a transaction as 0.5 describes it. -/
def Instr.wellFormed : Instr → Bool
  | .accept _ t => t.wellFormed
  | .frameError bits => decide (bits.length ≠ 0) && decide (bits.length ≠ Config.frameClocks)
  | .undefinedOpcode op _ => !isCommandOpcode op
  | .rstnAssert | .rstnRelease _ | .dispatch _ | .responseReturn _ | .grant => true
  | .memoryCompletion _ _ | .stampIncrement | .openDeadline _ | .claimDeadline _ _ | .holdDeadline _ => true
  | .status _ | .stageWrite _ | .stageRead _ | .enable _ | .disable _ | .suspend _ | .resume _ | .sessionClear _ => true
  | .windowRead _ | .bankRead _ | .claimRead _ | .portRead _ | .counterRead _ | .counterClear _ => true
  | .faultPeek _ | .faultPop _ | .faultClear _ | .timeRead _ | .prescale _ | .maskWrite _ => true
  | .csnRiseWithoutFrame => true

end Sys2Proof
end

