-- ==== Sys2Proof/Certificates/Slice0/Obligations.lean ====
section
/-! DEFINITION. The statements for the provers, in the order of the chapters they come from. Each names the numbered rules it
formalises; OBLIGATIONS.json lists them. -/

open Sys2Proof Sys2Proof.Machine

/-! ### The queue of commands, time without a command, reset -/

/-- A step with a command at the front of the queue executes it with the rest of the queue. -/
def Obligations.StepRunsFrontCommand : Prop :=
  ∀ (s : State) (c : Instr) (rest : List Instr), s.pending = c :: rest → step s = exec c { s with pending := rest }

/-- Every command completes in every state, and leaves the queue of waiting commands as it is (logs 2 and 4). -/
def Obligations.CommandsKeepTheQueue : Prop :=
  ∀ (c : Instr) (s : State), ∃ t, exec c s = .next t ∧ t.pending = s.pending

/-- R155, R156, R159, R160: the increment raises the count by one modulo 2^32, returns the phase count to 0, puts the stored P in force
and takes in its event the deadlines due at the new count. Where none is due, or the commands next in the queue take each that is
(the model's choice, log 7), nothing else changes; a deadline that alone is due is taken as its own command takes it; afterwards none
is due but those left to these commands (one HELD entry a port, R126, naming its window). With no command waiting a REFCLK cycle
passes (the model's choice, log 1): the phase count rises, and at P the increment is made. -/
def Obligations.StampIncrements : Prop :=
  (∀ s : State, s.rstn = true → (∀ d, s.counted.Due d → d ∈ deadlinesNamed s.pending) →
    exec .stampIncrement s =
      .next { s with time := { stamp := s.time.stamp + 1, p := s.time.p, pNow := s.time.p, phase := 0 } })
  ∧ (∀ (s : State) (d : Deadline), s.rstn = true → s.counted.Due d → d ∉ deadlinesNamed s.pending →
      (∀ x, x ≠ d → ¬ s.counted.Due x) → exec .stampIncrement s = exec d.command s.counted)
  ∧ (∀ s : State, s.rstn = true → s.HoldsNamed →
      ∃ t, exec .stampIncrement s = .next t ∧ t.time = s.counted.time ∧
        ∀ d, t.Due d → d ∈ deadlinesNamed s.pending)
  ∧ (∀ s : State, s.pending = [] → s.rstn = true → s.time.phase + 1 < s.time.pNow →
      step s = .next { s with time := { s.time with phase := s.time.phase + 1 } })
  ∧ (∀ s : State, s.pending = [] → s.rstn = true → s.time.phase + 1 = s.time.pNow → step s = exec .stampIncrement s)

/-- What reset leaves, as the rules give it: the staged records (R1), the pool (R8), the producer records with NEXTSEQ and LASTSTAMP
(R11, R122), the order lists and the counters (R12, R172), OUTSTANDING (R13), the lifecycle (R14), the claim records (R12, R49), the
job list (R69), the accepted lists (R126), the request queues, the outstanding-issue list and the pointer (R143, R146, R147, R153),
the stamp count (R155), P and the phase count (R156), the fault queue, OVERRUN and the global mask (R166), the latch, BUSY, the
long-operation record and the receiver (R176), and the ready lines and FLT deasserted (R163, R169). -/
def Obligations.ResetValues : Prop :=
  (∀ w : WinId,
    (State.reset.cfg w).mode = .snapshot ∧ (State.reset.cfg w).base = 0 ∧ (State.reset.cfg w).granules = 1 ∧
    (State.reset.cfg w).banks = 3 ∧ (∀ k : Fin 7, (State.reset.cfg w).shadow[k] = 0) ∧
    (State.reset.cfg w).producer = 0 ∧ (State.reset.cfg w).consumers = 0 ∧ (State.reset.cfg w).trigger = .atEnd ∧
    (State.reset.cfg w).partialPolicy = .merge ∧ (State.reset.cfg w).overlay = false ∧
    (State.reset.cfg w).empty = .pattern ∧ (State.reset.cfg w).full = .refuse ∧ (State.reset.cfg w).fillbyte = 0 ∧
    (State.reset.cfg w).claimlim = 0 ∧ (State.reset.cfg w).openlim = 0 ∧ (State.reset.cfg w).holdlim = 1000 ∧
    (State.reset.cfg w).rdyProducer = false ∧ (State.reset.cfg w).rdyConsumer = false ∧
    (State.reset.cfg w).fmask = 1023)
  ∧ (∀ i : RecId, State.reset.pool[i].owner = none)
  ∧ (∀ w : WinId, (State.reset.win w).life = .off ∧ (State.reset.win w).outstanding = 0 ∧
      (State.reset.win w).prod.bank = none ∧ (State.reset.win w).prod.opendl = none ∧
      (State.reset.win w).prod.nextseq = 1 ∧ (State.reset.win w).prod.lastdrop = false ∧
      (State.reset.win w).prod.lastrefused = false ∧ (State.reset.win w).prod.laststamp = 0 ∧
      (State.reset.win w).order = [] ∧ (State.reset.win w).commits = 0 ∧ (State.reset.win w).drops = 0 ∧
      (State.reset.win w).refusals = 0 ∧ (State.reset.win w).expiries = 0)
  ∧ (∀ (w : WinId) (p : PortId), (State.reset.claim w p).bank = none ∧ (State.reset.claim w p).claimdl = none ∧
      (State.reset.claim w p).reads = 0 ∧ (State.reset.claim w p).closing = false ∧
      (State.reset.claim w p).deferred = false ∧ (State.reset.claim w p).expired = false ∧
      (State.reset.claim w p).missed = 0 ∧ (State.reset.claim w p).lastseq = 0 ∧
      (State.reset.claim w p).claimmissed = 0 ∧ (State.reset.claim w p).claimexpired = false)
  ∧ State.reset.engine.jobs = []
  ∧ (∀ p : PortId, (State.reset.port p).entries = [])
  ∧ (∀ r : Requester, State.reset.mport.queues[r] = [])
  ∧ State.reset.mport.outstanding = [] ∧ State.reset.mport.pointer = 0
  ∧ State.reset.time.stamp = 0 ∧ State.reset.time.p = 25 ∧ State.reset.time.phase = 0
  ∧ State.reset.faults.queue = [] ∧ State.reset.faults.overrun = 0 ∧ State.reset.faults.mask = 7
  ∧ State.reset.link.latch.status = .none ∧ State.reset.link.latch.opcode = 0
  ∧ (∀ k : Fin 6, State.reset.link.latch.data[k] = 0) ∧ State.reset.link.longOp.opcode = 0
  ∧ State.reset.link.receiver.count = 0
  ∧ State.reset.link.busy = false ∧ State.reset.link.longOp.windows = [] ∧ State.reset.link.receiver.inProgress = false
  ∧ (∀ p : PortId, State.reset.rdy p = false) ∧ State.reset.flt = false

/-- R14, R85, R127, R141, R153, R155, R163, R169, R176: RSTn falling discards accepted lists, requests, issues, jobs and a frame in
progress, and puts the lines down; RSTn rising gives every piece of state its reset value, and with CSn low at that moment no frame
begins until CSn has risen: a frame clocked in that interval, of any kind, is not received, and its CSn rise only ends the interval.
While RSTn is low nothing else changes anything (log 2 for the commands that are no frames). What the fall leaves of the rest is the
model's choice (log 10), and so is a frame as one event (log 9). -/
def Obligations.ResetCommands : Prop :=
  (∀ s : State, ∃ t, exec .rstnAssert s = .next t ∧ t.rstn = false ∧
    (∀ p : PortId, (t.port p).entries = []) ∧ (∀ r : Requester, t.mport.queues[r] = []) ∧ t.mport.outstanding = [] ∧
    t.engine.jobs = [] ∧ (∀ w : WinId, (t.win w).life = .off) ∧ (∀ i : RecId, t.pool[i].owner = none) ∧
    t.time.stamp = 0 ∧ t.link.receiver = .idle ∧ (∀ p : PortId, t.rdy p = false) ∧ t.flt = false ∧
    t.pending = s.pending)
  ∧ (∀ (s : State) (csnLow : Bool), s.rstn = false →
      exec (.rstnRelease csnLow) s =
        .next
          { State.reset with
            link := { State.reset.link with receiver := { State.reset.link.receiver with awaitRise := csnLow } }
            pending := s.pending })
  ∧ (∀ (s : State) (c : Instr), s.rstn = true → s.link.receiver.awaitRise = true →
      (opcodeOf c ≠ none ∨ ∃ bits, c = .frameError bits) →
      exec c s =
        .next
          { s with
            link := { s.link with receiver := { inProgress := false, count := 0, bits := [], awaitRise := false } } })
  ∧ (∀ (s : State) (c : Instr), s.rstn = false → c ≠ .rstnAssert → (∀ csnLow, c ≠ .rstnRelease csnLow) →
      exec c s = .next s)

/-! ### Ports: acceptance, dispatch, classification (chapter 7) -/

/-- R127, R128: a port with fewer than 8 entries appends the transaction as a WAITING entry and changes nothing else; one with 8
entries does not accept. A port with a HELD entry, or with no WAITING one, dispatches nothing. That a command for what does not
happen leaves the state as it is, is log 2. -/
def Obligations.AcceptAppends : Prop :=
  (∀ (s : State) (p : PortId) (x : Txn), s.rstn = true → (s.port p).entries.length < 8 →
    ∃ t, exec (.accept p x) s = .next t ∧
      (t.port p).entries = (s.port p).entries ++
        [{ serial := (s.port p).nextSerial, txn := x, state := .waiting, code := none, parts := 0, errored := false,
           data := [], holdwin := none, holddl := none, dest := none, trigger := false }] ∧
      s.PortsBut t p ∧ { t with ports := s.ports } = s)
  ∧ (∀ (s : State) (p : PortId) (x : Txn), 8 ≤ (s.port p).entries.length → exec (.accept p x) s = .next s)
  ∧ (∀ (s : State) (p : PortId) (e : Entry), e ∈ (s.port p).entries → e.state = .held →
      exec (.dispatch p) s = .next s)
  ∧ (∀ (s : State) (p : PortId), (∀ e ∈ (s.port p).entries, e.state ≠ .waiting) → exec (.dispatch p) s = .next s)

/-- R167, R168: an offer whose enable is off has no effect; with fewer than 16 records the record joins the tail; with 16 it is
dropped and OVERRUN rises, stopping at 255. Kinds 1 to 10 are enabled by FMASK of the record's window, 11 to 13 by the global mask.
The codes of the thirteen kinds. -/
def Obligations.FaultOffer : Prop :=
  (∀ (s : State) (k : FaultKind) (w : Option WinId) (p : Option PortId) (loc : Option Nat),
    { s.offer k w p loc with faults := s.faults } = s ∧
    (∀ x : WinId, w = some x → k.code ≤ 10 → s.faultEnabled k w = (s.cfg x).fmask.getLsbD (k.code - 1)) ∧
    (11 ≤ k.code → s.faultEnabled k w = s.faults.mask.getLsbD (k.code - 11)) ∧
    (s.faultEnabled k w = false → s.offer k w p loc = s) ∧
    (s.faultEnabled k w = true → s.faults.queue.length < 16 →
      (s.offer k w p loc).faults =
        { s.faults with queue := s.faults.queue ++
            [{ kind := k, window := w, port := p, location := loc, stamp := s.time.stamp }] }) ∧
    (s.faultEnabled k w = true → 16 ≤ s.faults.queue.length →
      (s.offer k w p loc).faults =
        { s.faults with overrun := if s.faults.overrun = 255 then 255 else s.faults.overrun + 1 }))
  ∧ ([FaultKind.memWriteError, .memReadError, .mergeError, .droppedPoison, .droppedPartial, .openAbandoned, .claimExpired,
      .holdExpired, .queueFull, .foreign, .malformed, .shadowAccess, .straddle].map FaultKind.code
        = [1, 2, 3, 4, 5, 6, 7, 8, 9, 10, 11, 12, 13])

/-- R130, R131, tests 1 to 3: a malformed transaction, one that touches a shadow range and one that straddles a window range are
REFUSED at once with their fault; no counter and nothing else changes. -/
def Obligations.PortLevelRefusals : Prop :=
  ∀ (s : State) (p : PortId) (e : Entry), s.Dispatches p e →
    (malformed e.txn = true →
      ∃ t, exec (.dispatch p) s = .next t ∧ s.AnswersEntry t p .refused [] ∧
        t.faults = (s.offer .malformed none (some p) (some (e.txn.addr.toNat % 4096))).faults ∧
        { t with ports := s.ports, faults := s.faults } = s) ∧
    (∀ (w : WinId) (k : BankId), malformed e.txn = false → (s.win w).life ≠ .off → 1 ≤ k.val →
      k.val < (s.cfg w).bankCount → touchesRange e.txn (s.cfg w) k.val = true →
      (∀ (x : WinId) (j : BankId), x < w → (s.win x).life ≠ .off → 1 ≤ j.val → j.val < (s.cfg x).bankCount →
        touchesRange e.txn (s.cfg x) j.val = false) →
      ∃ t, exec (.dispatch p) s = .next t ∧ s.AnswersEntry t p .refused [] ∧
        t.faults = (s.offer .shadowAccess (some w) (some p) (some (e.txn.addr.toNat % 4096))).faults ∧
        { t with ports := s.ports, faults := s.faults } = s) ∧
    (∀ w : WinId, malformed e.txn = false → s.ClearOfShadows e.txn → (s.win w).life ≠ .off →
      touchesRange e.txn (s.cfg w) 0 = true → withinWindow e.txn (s.cfg w) = false →
      (∀ x : WinId, x < w → (s.win x).life ≠ .off → touchesRange e.txn (s.cfg x) 0 = false) →
      ∃ t, exec (.dispatch p) s = .next t ∧ s.AnswersEntry t p .refused [] ∧
        t.faults = (s.offer .straddle (some w) (some p) (some (e.txn.addr.toNat % 4096))).faults ∧
        { t with ports := s.ports, faults := s.faults } = s)

/-- R130, R131, tests 4 and 5: a transaction in the range of a window that is draining or SUSPENDED is REFUSED without a fault, and
one in the range of an ACTIVE window in which the port has no role is REFUSED with FOREIGN; either is counted in REFUSALS. -/
def Obligations.WindowLevelRefusals : Prop :=
  ∀ (s : State) (p : PortId) (e : Entry) (w : WinId), s.Dispatches p e → s.LiesIn e.txn w →
    ((s.win w).life ≠ .active →
      ∃ t, exec (.dispatch p) s = .next t ∧ s.AnswersEntry t p .refused [] ∧
        t.windows = s.windows.set w.val { s.win w with refusals := (s.win w).refusals + 1 } ∧
        { t with ports := s.ports, windows := s.windows } = s) ∧
    ((s.win w).life = .active → (s.cfg w).producer ≠ p → hasPort (s.cfg w).consumers p = false →
      ∃ t, exec (.dispatch p) s = .next t ∧ s.AnswersEntry t p .refused [] ∧
        t.windows = s.windows.set w.val { s.win w with refusals := (s.win w).refusals + 1 } ∧
        t.faults = (s.offer .foreign (some w) (some p) (some ((e.txn.addr.toNat - (s.cfg w).base.toNat) / 64))).faults ∧
        { t with ports := s.ports, windows := s.windows, faults := s.faults } = s)

/-- R132, R144: a transaction that touches no range of a window that is not OFF goes to memory as one part, unchanged. That DATA
holds 0x00 for a byte still to come from memory is the model's choice (log 11, DEDUCED). -/
def Obligations.PassThroughForwarded : Prop :=
  ∀ (s : State) (p : PortId) (e : Entry), s.Dispatches p e → malformed e.txn = false → s.ClearOfShadows e.txn →
    (∀ w : WinId, (s.win w).life ≠ .off → touchesRange e.txn (s.cfg w) 0 = false) →
    ∃ t, exec (.dispatch p) s = .next t ∧
      s.SendsEntry t p
        [{ owner := requesterOf p, ref := .entry e.serial, window := none, bank := none, kind := e.txn.kind,
           offset := e.txn.addr, beatSize := e.txn.beatSize, burst := e.txn.burst, wdata := e.txn.wdata, wen := e.txn.wen,
           pos := 0 }]
        (List.replicate e.txn.bytes 0) none false ∧
      { t with ports := s.ports, mport := s.mport } = s

/-! ### The producer's transactions (chapters 2, 5) -/

/-- R27, R28 to R31, R89, R91, R92: a producer write with a byte outside the overlay is steered into the FILLING bank, or opens a
session in the lowest-index FREE bank and is steered into it: one part, WINFLIGHT and OUTSTANDING up by one, LASTREFUSED cleared
(R27 in SNAPSHOT, R89 in QUEUE); a write that stores the trigger byte makes the bank COMMITTING and cancels OPENDL. The part is a
WRITE to that bank at the window offset of the write's start address, with its beat size, beat count and data and the enables of its
non-overlay bytes. -/
def Obligations.ProducerWriteSteered : Prop :=
  (∀ (s : State) (p : PortId) (e : Entry) (w : WinId) (b : BankId),
    s.ProducerDispatch p e w → e.txn.kind = .write → overlayOnly (s.cfg w) e.txn = false →
    ((s.win w).prod.bank = some b → (s.bank w b).state = .filling → (s.recordOf w b).isSome = true →
      ∃ t, exec (.dispatch p) s = .next t ∧
        s.SendsEntry t p [writePart p w (s.cfg w) b e.serial e.txn] [] (some b) (isTrigger (s.cfg w) e.txn) ∧
        t.windows = s.windows.set w.val
          { s.win w with
            outstanding := (s.win w).outstanding + 1
            prod :=
              { (s.win w).prod with
                lastrefused := false
                opendl := if isTrigger (s.cfg w) e.txn then none else (s.win w).prod.opendl } } ∧
        s.ChangesBank t w b
          { s.bank w b with
            state := if isTrigger (s.cfg w) e.txn then .committing else .filling
            winflight := (s.bank w b).winflight + 1 } ∧
        { t with ports := s.ports, windows := s.windows, pool := s.pool, mport := s.mport } = s) ∧
    ((s.win w).prod.bank = none → s.LowestFree w b →
      ∃ t, exec (.dispatch p) s = .next t ∧
        s.SendsEntry t p [writePart p w (s.cfg w) b e.serial e.txn] [] (some b) (isTrigger (s.cfg w) e.txn) ∧
        t.windows = s.windows.set w.val
          { s.win w with
            outstanding := (s.win w).outstanding + 1
            prod :=
              { (s.win w).prod with
                bank := some b
                lastrefused := false
                opendl :=
                  if isTrigger (s.cfg w) e.txn ∨ (s.cfg w).openlim = 0 then none
                  else some (s.time.stamp + (s.cfg w).openlim.setWidth 32) } } ∧
        s.ChangesBank t w b
          { s.bank w b with
            state := if isTrigger (s.cfg w) e.txn then .committing else .filling
            session := (s.bank w b).session + 1
            cover := [], poison := false, merged := 0, patterned := false
            winflight := (s.bank w b).winflight + 1 } ∧
        { t with ports := s.ports, windows := s.windows, pool := s.pool, mport := s.mport } = s))
  ∧ (∀ (c : WindowRec) (x : Txn) (i : Nat),
      (enablesWithoutOverlay c x).getLsbD i = (x.wen.getLsbD i && !isOverlayByte c (startOffset c x + i)))
  ∧ (∀ (p : PortId) (w : WinId) (c : WindowRec) (b : BankId) (n : Nat) (x : Txn), c.base.toNat ≤ x.addr.toNat →
      (writePart p w c b n x).owner = requesterOf p ∧ (writePart p w c b n x).ref = .entry n ∧
      (writePart p w c b n x).window = some w ∧ (writePart p w c b n x).bank = some b ∧
      (writePart p w c b n x).kind = .write ∧ (writePart p w c b n x).offset = x.addr - c.base ∧
      (writePart p w c b n x).beatSize = x.beatSize ∧ (writePart p w c b n x).burst = x.burst ∧
      (writePart p w c b n x).wdata = x.wdata ∧ (writePart p w c b n x).wen = enablesWithoutOverlay c x)

/-- R27, R28, R29, R31, R32, R91: a producer write wholly within the overlay bytes is answered OKAY without memory. It opens a session
when it finds none; as the trigger it makes the bank COMMITTING and clears LASTREFUSED, and with no write in flight the commit
decision is taken at once. One that is not the trigger leaves LASTREFUSED as it was (log 8, DEDUCED from R32's "no further
effect"). -/
def Obligations.OverlayWriteAnswered : Prop :=
  ∀ (s : State) (p : PortId) (e : Entry) (w : WinId) (b : BankId),
    s.ProducerDispatch p e w → e.txn.kind = .write → overlayOnly (s.cfg w) e.txn = true →
    ((s.win w).prod.bank = none → s.LowestFree w b → isTrigger (s.cfg w) e.txn = false →
      ∃ t, exec (.dispatch p) s = .next t ∧ s.AnswersEntry t p .okay [] ∧
        t.windows = s.windows.set w.val
          { s.win w with
            prod :=
              { (s.win w).prod with
                bank := some b
                opendl :=
                  if (s.cfg w).openlim = 0 then none else some (s.time.stamp + (s.cfg w).openlim.setWidth 32) } } ∧
        s.ChangesBank t w b
          { s.bank w b with
            state := .filling, session := (s.bank w b).session + 1, cover := [], poison := false, merged := 0
            patterned := false } ∧
        { t with ports := s.ports, windows := s.windows, pool := s.pool } = s) ∧
    ((s.win w).prod.bank = none → s.LowestFree w b → isTrigger (s.cfg w) e.txn = true → (s.bank w b).winflight = 0 →
      ∃ u t, u.windows = s.windows.set w.val
          { s.win w with prod := { (s.win w).prod with bank := some b, opendl := none, lastrefused := false } } ∧
        s.ChangesBank u w b
          { s.bank w b with
            state := .committing, session := (s.bank w b).session + 1, cover := [], poison := false, merged := 0
            patterned := false } ∧
        { u with windows := s.windows, pool := s.pool } = s ∧
        exec (.dispatch p) s = .next t ∧ s.AnswersEntry t p .okay [] ∧
        { t with ports := s.ports } = u.commitDecision w b) ∧
    ((s.win w).prod.bank = some b → (s.bank w b).state = .filling → (s.recordOf w b).isSome = true →
      (isTrigger (s.cfg w) e.txn = false →
        ∃ t, exec (.dispatch p) s = .next t ∧ s.AnswersEntry t p .okay [] ∧ { t with ports := s.ports } = s) ∧
      (isTrigger (s.cfg w) e.txn = true → (s.bank w b).winflight ≠ 0 →
        ∃ t, exec (.dispatch p) s = .next t ∧ s.AnswersEntry t p .okay [] ∧
          t.windows = s.windows.set w.val
            { s.win w with prod := { (s.win w).prod with opendl := none, lastrefused := false } } ∧
          s.ChangesBank t w b { s.bank w b with state := .committing } ∧
          { t with ports := s.ports, windows := s.windows, pool := s.pool } = s) ∧
      (isTrigger (s.cfg w) e.txn = true → (s.bank w b).winflight = 0 →
        ∃ u t, u.windows = s.windows.set w.val
            { s.win w with prod := { (s.win w).prod with opendl := none, lastrefused := false } } ∧
          s.ChangesBank u w b { s.bank w b with state := .committing } ∧
          { u with windows := s.windows, pool := s.pool } = s ∧
          exec (.dispatch p) s = .next t ∧ s.AnswersEntry t p .okay [] ∧
          { t with ports := s.ports } = u.commitDecision w b))

/-- R33, R91, R94, R134: a producer write is held behind a COMMITTING, MERGING or EXPIRING bank, and under FULL = HOLD when the
queue is full; nothing but the port's entry changes. -/
def Obligations.ProducerWriteHeld : Prop :=
  ∀ (s : State) (p : PortId) (e : Entry) (w : WinId), s.ProducerDispatch p e w → e.txn.kind = .write →
    (∀ b : BankId, (s.win w).prod.bank = some b →
      (s.bank w b).state = .committing ∨ (s.bank w b).state = .merging ∨ (s.bank w b).state = .expiring →
      ∃ t, exec (.dispatch p) s = .next t ∧ s.HoldsEntry t p w ∧ { t with ports := s.ports } = s) ∧
    ((s.cfg w).mode = .queue → (s.win w).prod.bank = none → s.NoFree w → (s.cfg w).full = .hold →
      ∃ t, exec (.dispatch p) s = .next t ∧ s.HoldsEntry t p w ∧ { t with ports := s.ports } = s)

/-- R93: under FULL = REFUSE a producer write that finds the queue full is REFUSED at its dispatch, with LASTREFUSED set, REFUSALS
incremented and QUEUE_FULL offered; every bank, the order list and the claim stay. -/
def Obligations.QueueFullRefused : Prop :=
  ∀ (s : State) (p : PortId) (e : Entry) (w : WinId), s.ProducerDispatch p e w → e.txn.kind = .write →
    (s.cfg w).mode = .queue → (s.win w).prod.bank = none → s.NoFree w → (s.cfg w).full = .refuse →
    ∃ t, exec (.dispatch p) s = .next t ∧ s.AnswersEntry t p .refused [] ∧
      t.windows = s.windows.set w.val
        { s.win w with
          refusals := (s.win w).refusals + 1, prod := { (s.win w).prod with lastrefused := true } } ∧
      t.faults = (s.offer .queueFull (some w) (some p) none).faults ∧
      { t with ports := s.ports, windows := s.windows, faults := s.faults } = s

/-- R46, R47, R112, R125, R139: a producer read is never held and never refused: it is answered from pattern and overlay bytes, or
sent to memory and counted once in OUTSTANDING; no bank, claim or session changes. Where each of its bytes comes from, and what
stands in DATA at the dispatch (for a byte still to come from memory: log 11). -/
def Obligations.ProducerReadServed : Prop :=
  (∀ (s : State) (p : PortId) (e : Entry) (w : WinId) (parts : List MemReq),
      s.ProducerDispatch p e w → e.txn.kind = .read →
      parts = readParts p w (s.cfg w) e.serial e.txn (s.producerSource w) →
      ∃ t, exec (.dispatch p) s = .next t ∧
        s.ServesRead t p parts (initialData (s.cfg w) e.txn (s.producerSource w) (s.producerDescriptor w)) ∧
        t.windows = s.windows.set w.val { s.win w with outstanding := (s.win w).outstanding + inFlight parts } ∧
        { t with ports := s.ports, windows := s.windows, mport := s.mport } = s)
  ∧ (∀ (s : State) (w : WinId) (o : Nat),
    (isOverlayByte (s.cfg w) o = true → s.producerSource w o = .overlay) ∧
    (isOverlayByte (s.cfg w) o = false → (s.cfg w).mode = .snapshot →
      (∀ b, (s.win w).prod.bank = some b → o / 64 ∈ (s.bank w b).cover → s.producerSource w o = .bank b) ∧
      (((s.win w).prod.bank = none ∨ ∃ b, (s.win w).prod.bank = some b ∧ o / 64 ∉ (s.bank w b).cover) →
        (∀ cur, s.IsCurrent w cur → s.producerSource w o = .bank cur) ∧
        (s.NoCurrent w → s.producerSource w o = .pattern))) ∧
    (isOverlayByte (s.cfg w) o = false → (s.cfg w).mode = .queue →
      (∀ b, (s.win w).prod.bank = some b → s.producerSource w o = .bank b) ∧
      ((s.win w).prod.bank = none → s.producerSource w o = .pattern)))
  ∧ (∀ (c : WindowRec) (x : Txn) (src : Nat → Source) (d : List Byte),
      (initialData c x src d).length = x.bytes ∧
      ∀ i, i < x.bytes →
        (src (startOffset c x + i) = .pattern → (initialData c x src d)[i]? = some c.fillbyte) ∧
        (src (startOffset c x + i) = .overlay → (initialData c x src d)[i]? = some (d.getD (startOffset c x + i) 0)))

/-- R119 to R121, R123, R124: the sixteen bytes of the consumer descriptor of a claim in each mode, and of the producer
descriptor, and what WRITTEN, FREE, QUEUED and STATE of the latter are. -/
def Obligations.DescriptorLayouts : Prop :=
  (∀ (s : State) (w : WinId) (p : PortId) (b : BankId), (s.cfg w).mode = .snapshot →
    s.consumerDescriptor w p b =
      le16 (s.bank w b).seq ++ le16Nat (s.bank w b).length ++ le16Nat (s.bank w b).written
        ++ [1, 0, (s.claim w p).claimmissed,
            flagByte [false, (s.claim w p).claimexpired, decide (0 < (s.bank w b).merged), (s.bank w b).patterned]]
        ++ le32 (s.bank w b).stamp ++ [BitVec.ofNat 8 p.val, BitVec.ofNat 8 w.val])
  ∧ (∀ (s : State) (w : WinId) (p : PortId) (b : BankId), (s.cfg w).mode = .queue →
      s.consumerDescriptor w p b =
        le16 (s.bank w b).seq ++ le16Nat (s.bank w b).length ++ le16Nat (s.bank w b).written
          ++ [BitVec.ofNat 8 (s.win w).order.length, (s.bank w b).deliveries, 0,
              flagByte [false, (s.claim w p).claimexpired]]
          ++ le32 (s.bank w b).stamp ++ [BitVec.ofNat 8 p.val, BitVec.ofNat 8 w.val])
  ∧ (∀ (s : State) (w : WinId),
      (s.producerDescriptor w).length = 16 ∧
      s.producerDescriptor w =
        le16 (s.win w).prod.nextseq ++ le16Nat (s.coveredCount w)
          ++ [BitVec.ofNat 8 (s.freeCount w), BitVec.ofNat 8 (s.queuedCount w), BitVec.ofNat 8 (s.producerCode w),
              flagByte [(s.win w).prod.lastdrop, (s.win w).prod.lastrefused]]
          ++ le32 (s.win w).prod.laststamp ++ le32 s.time.stamp)
  ∧ (∀ (s : State) (w : WinId),
      ((s.win w).prod.bank = none → s.coveredCount w = 0 ∧ s.producerCode w = 0) ∧
      (∀ b, (s.win w).prod.bank = some b →
        s.coveredCount w = (s.bank w b).cover.length ∧
        ((s.bank w b).state = .filling → s.producerCode w = 1) ∧ ((s.bank w b).state = .committing → s.producerCode w = 2) ∧
        ((s.bank w b).state = .merging → s.producerCode w = 3) ∧ ((s.bank w b).state = .expiring → s.producerCode w = 4)) ∧
      s.freeCount w =
        (Finset.univ.filter fun b : BankId => b.val < (s.cfg w).bankCount ∧ (s.bank w b).state = .free).card ∧
      ((s.cfg w).mode = .snapshot →
        (s.NoCurrent w → s.queuedCount w = 0) ∧ (∀ b, s.IsCurrent w b → s.queuedCount w = 1)) ∧
      ((s.cfg w).mode = .queue → s.queuedCount w = (s.win w).order.length))

/-- R54, R103, R133, R144: the runs of a list of beat sources are whole runs of one bank, take in every beat named to a bank, come
in increasing order without overlap, and are maximal: where two runs adjoin, their banks differ. A consumer read has at most one
part, a producer read at most three. The parts are one for each run, in order: a READ of the run's bank from the window offset of
the run's first beat on, in the transaction's beat size, of as many beats as the run. The example of R144: a consumer read of
offsets 0 to 127 with OVERLAY on is one part at offset 16. -/
def Obligations.ReadPartsAreMaximalRuns : Prop :=
  (∀ (srcs : List Source) (n : Nat),
      (∀ r ∈ runsFrom n srcs, 1 ≤ r.count ∧ n ≤ r.first ∧
        ∀ k, k < r.count → srcs[r.first - n + k]? = some (.bank r.bank)) ∧
      (∀ (i : Nat) (b : BankId), srcs[i]? = some (.bank b) →
        ∃ r ∈ runsFrom n srcs, r.bank = b ∧ r.first ≤ n + i ∧ n + i < r.first + r.count) ∧
      (runsFrom n srcs).Pairwise fun r q =>
        r.first + r.count ≤ q.first ∧ (r.first + r.count = q.first → r.bank ≠ q.bank))
  ∧ ((∀ (p : PortId) (w : WinId) (c : WindowRec) (n : Nat) (x : Txn) (b : BankId),
      (readParts p w c n x (snapshotClaimSource c b)).length ≤ 1) ∧
    (∀ (p : PortId) (w : WinId) (c : WindowRec) (n : Nat) (x : Txn) (b : BankId) (length : Nat),
      (readParts p w c n x (queueClaimSource c b length)).length ≤ 1) ∧
    (∀ (s : State) (p : PortId) (w : WinId) (n : Nat) (x : Txn),
      (readParts p w (s.cfg w) n x (s.producerSource w)).length ≤ 3))
  ∧ (∀ (p : PortId) (w : WinId) (c : WindowRec) (n : Nat) (x : Txn) (src : Nat → Source), c.base.toNat ≤ x.addr.toNat →
      (beatSources c x src).length = x.burst.val + 1 ∧
      (∀ i, i ≤ x.burst.val →
        (beatSources c x src)[i]? = some (src (x.addr.toNat - c.base.toNat + i * x.beatSize.bytes))) ∧
      (readParts p w c n x src).length = (runsFrom 0 (beatSources c x src)).length ∧
      ∀ (k : Nat) (q : MemReq) (r : Run), (readParts p w c n x src)[k]? = some q →
        (runsFrom 0 (beatSources c x src))[k]? = some r →
        q.owner = requesterOf p ∧ q.ref = .entry n ∧ q.window = some w ∧ q.bank = some r.bank ∧ q.kind = .read ∧
        q.offset = x.addr - c.base + BitVec.ofNat 40 (r.first * x.beatSize.bytes) ∧ q.beatSize = x.beatSize ∧
        q.burst.val + 1 = r.count ∧ q.pos = r.first * x.beatSize.bytes)
  ∧ (∀ (p : PortId) (w : WinId) (c : WindowRec) (n : Nat) (x : Txn) (b : BankId),
      c.overlay = true → x.addr = c.base → x.beatSize = .b8 → x.burst = 15 →
      ∃ q, readParts p w c n x (snapshotClaimSource c b) = [q] ∧ q.bank = some b ∧ q.offset = 16 ∧ q.burst = 13)

/-! ### The consumer's transactions (chapters 3, 5) -/

/-- R51, R52, R54, R59: with no claim, a read opens a claim on the CURRENT bank (unless EXPIRED is on and it does not touch granule
0) and is served from it; with a claim it goes on being served from the claimed bank. A read that includes the window's last byte
sets CLOSING. The descriptor is that of the claim. -/
def Obligations.SnapshotClaimReads : Prop :=
  ∀ (s : State) (p : PortId) (e : Entry) (w : WinId) (b : BankId) (parts : List MemReq),
    s.ConsumerDispatch p e w → (s.cfg w).mode = .snapshot → e.txn.kind = .read →
    parts = readParts p w (s.cfg w) e.serial e.txn (snapshotClaimSource (s.cfg w) b) →
    ((s.claim w p).bank = none → s.IsCurrent w b →
      ((s.claim w p).expired = false ∨ touchesGranuleZero (s.cfg w) e.txn = true) →
      ∃ t, exec (.dispatch p) s = .next t ∧
        s.ServesRead t p parts
          (initialData (s.cfg w) e.txn (snapshotClaimSource (s.cfg w) b) (t.consumerDescriptor w p b)) ∧
        t.windows = s.windows.set w.val
          { s.win w with
            outstanding := (s.win w).outstanding + inFlight parts
            claims := (s.win w).claims.set p.val
              { s.claim w p with
                bank := some b
                lastseq := (s.bank w b).seq
                claimmissed := (s.claim w p).missed
                missed := 0
                claimexpired := (s.claim w p).expired
                expired := false
                claimdl :=
                  if (s.cfg w).claimlim = 0 then none else some (s.time.stamp + (s.cfg w).claimlim.setWidth 32)
                reads := (s.claim w p).reads + inFlight parts
                closing := (s.claim w p).closing || spanHas (s.cfg w) e.txn (s.cfg w).lastOffset } } ∧
        s.ChangesBank t w b { s.bank w b with holders := addPort (s.bank w b).holders p } ∧
        { t with ports := s.ports, windows := s.windows, pool := s.pool, mport := s.mport } = s) ∧
    ((s.claim w p).bank = some b → (s.claim w p).closing = false → (s.claim w p).deferred = false →
      ((s.bank w b).state ≠ .held ∨ touchesGranuleZero (s.cfg w) e.txn = false) →
      ∃ t, exec (.dispatch p) s = .next t ∧
        s.ServesRead t p parts
          (initialData (s.cfg w) e.txn (snapshotClaimSource (s.cfg w) b) (t.consumerDescriptor w p b)) ∧
        t.windows = s.windows.set w.val
          { s.win w with
            outstanding := (s.win w).outstanding + inFlight parts
            claims := (s.win w).claims.set p.val
              { s.claim w p with
                reads := (s.claim w p).reads + inFlight parts
                closing := spanHas (s.cfg w) e.txn (s.cfg w).lastOffset } } ∧
        { t with ports := s.ports, windows := s.windows, mport := s.mport } = s)

/-- R51 case 3, R56, R60: a read that touches granule 0, from a port whose claim is on a HELD bank with no read in flight, releases
that claim (the HELD bank becomes FREE when the port was its last holder) and claims the CURRENT bank in the same event. -/
def Obligations.RestartClaimsCurrent : Prop :=
  ∀ (s : State) (p : PortId) (e : Entry) (w : WinId) (o b : BankId) (parts : List MemReq),
    s.ConsumerDispatch p e w → (s.cfg w).mode = .snapshot → e.txn.kind = .read →
    (s.claim w p).bank = some o → (s.bank w o).state = .held → (s.recordOf w o).isSome = true → s.IsCurrent w b →
    (s.claim w p).closing = false → (s.claim w p).deferred = false → (s.claim w p).reads = 0 →
    touchesGranuleZero (s.cfg w) e.txn = true →
    parts = readParts p w (s.cfg w) e.serial e.txn (snapshotClaimSource (s.cfg w) b) →
    ∃ t, exec (.dispatch p) s = .next t ∧
      s.ServesRead t p parts
        (initialData (s.cfg w) e.txn (snapshotClaimSource (s.cfg w) b) (t.consumerDescriptor w p b)) ∧
      t.windows = s.windows.set w.val
        { s.win w with
          outstanding := (s.win w).outstanding + inFlight parts
          claims := (s.win w).claims.set p.val
            { s.claim w p with
              bank := some b
              lastseq := (s.bank w b).seq
              claimmissed := (s.claim w p).missed
              missed := 0
              claimexpired := (s.claim w p).expired
              expired := false
              claimdl := if (s.cfg w).claimlim = 0 then none else some (s.time.stamp + (s.cfg w).claimlim.setWidth 32)
              reads := inFlight parts
              closing := spanHas (s.cfg w) e.txn (s.cfg w).lastOffset } } ∧
      t.bank w b = { s.bank w b with holders := addPort (s.bank w b).holders p } ∧
      t.bank w o =
        { s.bank w o with
          holders := removePort (s.bank w o).holders p
          state := if removePort (s.bank w o).holders p = 0 then .free else .held } ∧
      (∀ i : RecId, s.recordOf w b ≠ some i → s.recordOf w o ≠ some i → t.pool[i] = s.pool[i]) ∧
      { t with ports := s.ports, windows := s.windows, pool := s.pool, mport := s.mport } = s

/-- R51 cases 1, 2, 4 and 7, R101 cases 1 and 2: a consumer read is REFUSED, and counted in REFUSALS, while its claim is DEFERRED
and not CLOSING, and in SNAPSHOT when EXPIRED is on and it does not begin at granule 0; it is held while CLOSING is on, and, setting
CLOSING, when it would restart with reads in flight. -/
def Obligations.ConsumerReadRefusedOrHeld : Prop :=
  ∀ (s : State) (p : PortId) (e : Entry) (w : WinId), s.ConsumerDispatch p e w → e.txn.kind = .read →
    (∀ b : BankId, (s.claim w p).bank = some b → (s.claim w p).deferred = true → (s.claim w p).closing = false →
      ∃ t, exec (.dispatch p) s = .next t ∧ s.AnswersEntry t p .refused [] ∧
        t.windows = s.windows.set w.val { s.win w with refusals := (s.win w).refusals + 1 } ∧
        { t with ports := s.ports, windows := s.windows } = s) ∧
    (∀ b : BankId, (s.claim w p).bank = some b → (s.claim w p).closing = true →
      ∃ t, exec (.dispatch p) s = .next t ∧ s.HoldsEntry t p w ∧ { t with ports := s.ports } = s) ∧
    (∀ b : BankId, (s.cfg w).mode = .snapshot → (s.claim w p).bank = some b → (s.bank w b).state = .held →
      (s.claim w p).closing = false → (s.claim w p).deferred = false → (s.claim w p).reads ≠ 0 →
      touchesGranuleZero (s.cfg w) e.txn = true →
      ∃ t, exec (.dispatch p) s = .next t ∧ s.HoldsEntry t p w ∧
        t.windows = s.windows.set w.val
          { s.win w with claims := (s.win w).claims.set p.val { s.claim w p with closing := true } } ∧
        { t with ports := s.ports, windows := s.windows } = s) ∧
    (∀ b : BankId, (s.cfg w).mode = .snapshot → (s.claim w p).bank = none → s.IsCurrent w b →
      (s.claim w p).expired = true → touchesGranuleZero (s.cfg w) e.txn = false →
      ∃ t, exec (.dispatch p) s = .next t ∧ s.AnswersEntry t p .refused [] ∧
        t.windows = s.windows.set w.val { s.win w with refusals := (s.win w).refusals + 1 } ∧
        { t with ports := s.ports, windows := s.windows } = s)

/-- R53, R101 case 4, R120, R121: a read with no claim and nothing to claim opens no claim. Under PATTERN, or wholly within the
overlay bytes, it is answered OKAY with FILLBYTE and, in the overlay bytes, a descriptor with the EMPTY flag; else it is REFUSED
and counted. -/
def Obligations.EmptyReadAnswered : Prop :=
  (∀ (s : State) (p : PortId) (e : Entry) (w : WinId), s.ConsumerDispatch p e w → e.txn.kind = .read →
    (s.claim w p).bank = none →
    (((s.cfg w).mode = .snapshot ∧ s.NoCurrent w) ∨ ((s.cfg w).mode = .queue ∧ (s.win w).order = [])) →
    ((s.cfg w).empty = .pattern ∨ overlayOnly (s.cfg w) e.txn = true →
      ∃ t, exec (.dispatch p) s = .next t ∧ s.AnswersEntry t p .okay (s.emptyData w p e.txn) ∧
        { t with ports := s.ports } = s) ∧
    ((s.cfg w).empty = .refuse → overlayOnly (s.cfg w) e.txn = false →
      ∃ t, exec (.dispatch p) s = .next t ∧ s.AnswersEntry t p .refused [] ∧
        t.windows = s.windows.set w.val { s.win w with refusals := (s.win w).refusals + 1 } ∧
        { t with ports := s.ports, windows := s.windows } = s))
  ∧ (∀ (s : State) (w : WinId) (p : PortId) (x : Txn) (i : Nat), i < x.bytes →
      (isOverlayByte (s.cfg w) (startOffset (s.cfg w) x + i) = false →
        (s.emptyData w p x)[i]? = some (s.cfg w).fillbyte) ∧
      (isOverlayByte (s.cfg w) (startOffset (s.cfg w) x + i) = true →
        (s.emptyData w p x)[i]? =
          some
            ((le16 0 ++ le16Nat (if (s.cfg w).mode = Mode.snapshot then (s.cfg w).granuleCount else 0) ++ le16Nat 0
              ++ [0, 0, 0, 1] ++ le32 0 ++ [BitVec.ofNat 8 p.val, BitVec.ofNat 8 w.val]).getD
              (startOffset (s.cfg w) x + i) 0)))

/-- R101 cases 3 and 5, R102, R103, R105: with no claim, a read opens a claim on the head of the order list, whose DELIVERIES
rises, and is served from it; with a claim it goes on being served from the head. Granules at or beyond LENGTH are answered with the
pattern. A read that includes the message's last byte, or the window's, sets CLOSING; a closing read without a memory part does so
while reads are in flight, and otherwise releases the claim at once: the head leaves the order list and becomes FREE, and the
producer port, when there is no producer bank, receives a release event. -/
def Obligations.QueueClaimReads : Prop :=
  ∀ (s : State) (p : PortId) (e : Entry) (w : WinId) (b : BankId) (rest : List BankId) (parts : List MemReq) (closes : Bool),
    s.ConsumerDispatch p e w → (s.cfg w).mode = .queue → e.txn.kind = .read → (s.win w).order = b :: rest →
    (s.recordOf w b).isSome = true →
    parts = readParts p w (s.cfg w) e.serial e.txn (queueClaimSource (s.cfg w) b (s.bank w b).length) →
    closes = (spanHas (s.cfg w) e.txn ((s.bank w b).length * 64 - 1) || spanHas (s.cfg w) e.txn (s.cfg w).lastOffset) →
    ((s.claim w p).bank = none → (parts ≠ [] ∨ closes = false) →
      ∃ t, exec (.dispatch p) s = .next t ∧
        s.ServesRead t p parts
          (initialData (s.cfg w) e.txn (queueClaimSource (s.cfg w) b (s.bank w b).length) (t.consumerDescriptor w p b)) ∧
        t.windows = s.windows.set w.val
          { s.win w with
            outstanding := (s.win w).outstanding + inFlight parts
            claims := (s.win w).claims.set p.val
              { s.claim w p with
                bank := some b
                lastseq := (s.bank w b).seq
                claimmissed := (s.claim w p).missed
                missed := 0
                claimexpired := (s.claim w p).expired
                expired := false
                claimdl :=
                  if (s.cfg w).claimlim = 0 then none else some (s.time.stamp + (s.cfg w).claimlim.setWidth 32)
                reads := (s.claim w p).reads + inFlight parts
                closing := (s.claim w p).closing || closes } } ∧
        s.ChangesBank t w b
          { s.bank w b with
            deliveries := if (s.bank w b).deliveries = 255 then 255 else (s.bank w b).deliveries + 1 } ∧
        { t with ports := s.ports, windows := s.windows, pool := s.pool, mport := s.mport } = s) ∧
    ((s.claim w p).bank = some b → (s.claim w p).closing = false → (s.claim w p).deferred = false →
      (parts ≠ [] ∨ closes = false ∨ (s.claim w p).reads ≠ 0) →
      ∃ t, exec (.dispatch p) s = .next t ∧
        s.ServesRead t p parts
          (initialData (s.cfg w) e.txn (queueClaimSource (s.cfg w) b (s.bank w b).length) (t.consumerDescriptor w p b)) ∧
        t.windows = s.windows.set w.val
          { s.win w with
            outstanding := (s.win w).outstanding + inFlight parts
            claims := (s.win w).claims.set p.val
              { s.claim w p with reads := (s.claim w p).reads + inFlight parts, closing := closes } } ∧
        { t with ports := s.ports, windows := s.windows, mport := s.mport } = s) ∧
    ((s.claim w p).bank = some b → (s.claim w p).closing = false → (s.claim w p).deferred = false →
      parts = [] → closes = true → (s.claim w p).reads = 0 →
      ∃ t, exec (.dispatch p) s = .next t ∧
        t.port p =
          { s.port p with
            entries := modFirst Entry.isWaiting
              (fun e =>
                { e with
                  state := .answered, code := some .okay, holdwin := none, holddl := none
                  data :=
                    initialData (s.cfg w) e.txn (queueClaimSource (s.cfg w) b (s.bank w b).length)
                      (s.consumerDescriptor w p b) })
              (s.port p).entries } ∧
        (∀ q, q ≠ p → t.port q =
          if q = (s.cfg w).producer ∧ (s.win w).prod.bank = none then (s.port q).afterRelease w else s.port q) ∧
        t.windows = s.windows.set w.val
          { s.win w with
            order := rest
            claims := (s.win w).claims.set p.val
              { s.claim w p with bank := none, claimdl := none, closing := false, deferred := false } } ∧
        s.ChangesBank t w b { s.bank w b with state := .free } ∧
        { t with ports := s.ports, windows := s.windows, pool := s.pool } = s) ∧
    ((s.claim w p).bank = none → parts = [] → closes = true → (s.claim w p).reads = 0 →
      ∃ t d, exec (.dispatch p) s = .next t ∧
        t.port p =
          { s.port p with
            entries := modFirst Entry.isWaiting
              (fun e =>
                { e with
                  state := .answered, code := some .okay, holdwin := none, holddl := none
                  data := initialData (s.cfg w) e.txn (queueClaimSource (s.cfg w) b (s.bank w b).length) d })
              (s.port p).entries } ∧
        (∀ q, q ≠ p → t.port q =
          if q = (s.cfg w).producer ∧ (s.win w).prod.bank = none then (s.port q).afterRelease w else s.port q) ∧
        t.windows = s.windows.set w.val
          { s.win w with
            order := rest
            claims := (s.win w).claims.set p.val
              { s.claim w p with
                bank := none, claimdl := none, closing := false, deferred := false
                lastseq := (s.bank w b).seq
                claimmissed := (s.claim w p).missed
                missed := 0
                claimexpired := (s.claim w p).expired
                expired := false } } ∧
        s.ChangesBank t w b
          { s.bank w b with
            state := .free
            deliveries := if (s.bank w b).deliveries = 255 then 255 else (s.bank w b).deliveries + 1 } ∧
        { t with ports := s.ports, windows := s.windows, pool := s.pool } = s)

/-- R62, R107: a consumer write wholly within the overlay bytes releases its claim without reading; every other consumer write is
REFUSED and counted. None stores anything. -/
def Obligations.ConsumerWriteAnswered : Prop :=
  ∀ (s : State) (p : PortId) (e : Entry) (w : WinId), s.ConsumerDispatch p e w → e.txn.kind = .write →
    ((overlayOnly (s.cfg w) e.txn = false ∨ (s.claim w p).bank = none ∨
        ((s.claim w p).deferred = true ∧ (s.claim w p).closing = false)) →
      ∃ t, exec (.dispatch p) s = .next t ∧ s.AnswersEntry t p .refused [] ∧
        t.windows = s.windows.set w.val { s.win w with refusals := (s.win w).refusals + 1 } ∧
        { t with ports := s.ports, windows := s.windows } = s) ∧
    (∀ b : BankId, overlayOnly (s.cfg w) e.txn = true → (s.claim w p).bank = some b →
      ((s.claim w p).closing = true →
        ∃ t, exec (.dispatch p) s = .next t ∧ s.AnswersEntry t p .okay [] ∧ { t with ports := s.ports } = s) ∧
      ((s.claim w p).closing = false → (s.claim w p).deferred = false → (s.claim w p).reads ≠ 0 →
        ∃ t, exec (.dispatch p) s = .next t ∧ s.AnswersEntry t p .okay [] ∧
          t.windows = s.windows.set w.val
            { s.win w with claims := (s.win w).claims.set p.val { s.claim w p with closing := true } } ∧
          { t with ports := s.ports, windows := s.windows } = s) ∧
      ((s.claim w p).closing = false → (s.claim w p).deferred = false → (s.claim w p).reads = 0 →
        ∃ t, exec (.dispatch p) s = .next t ∧
          (t.port p).entries =
            modFirst Entry.isWaiting
              (fun e => { e with state := .answered, code := some .okay, data := [], holdwin := none, holddl := none })
              (s.port p).entries ∧
          (∀ q, q ≠ p → t.port q = (s.releaseClaim w p).port q) ∧
          { t with ports := (s.releaseClaim w p).ports } = s.releaseClaim w p))

/-- R60, R106: what a release does. In SNAPSHOT the port leaves HOLDERS and a HELD bank without a holder becomes FREE, while a
CURRENT bank stays CURRENT (R60, R66; log 22 on R41); in QUEUE the head leaves the order list and becomes FREE. The claim ends, its
history kept; the port receives a release event, and in QUEUE the producer port one when there is no producer bank. -/
def Obligations.ReleaseEndsClaim : Prop :=
  ∀ (s : State) (w : WinId) (p : PortId) (b : BankId), (s.claim w p).bank = some b → (s.recordOf w b).isSome = true →
    ((s.cfg w).mode = .snapshot →
      s.ChangesBank (s.releaseClaim w p) w b
        { s.bank w b with
          holders := removePort (s.bank w b).holders p
          state :=
            if (s.bank w b).state = .held ∧ removePort (s.bank w b).holders p = 0 then .free
            else (s.bank w b).state } ∧
      (s.releaseClaim w p).windows = s.windows.set w.val
        { s.win w with
          claims := (s.win w).claims.set p.val
            { s.claim w p with bank := none, claimdl := none, closing := false, deferred := false } } ∧
      (∀ q, (s.releaseClaim w p).port q = if q = p then (s.port q).afterRelease w else s.port q) ∧
      { s.releaseClaim w p with ports := s.ports, windows := s.windows, pool := s.pool } = s) ∧
    (∀ rest : List BankId, (s.cfg w).mode = .queue → (s.win w).order = b :: rest →
      s.ChangesBank (s.releaseClaim w p) w b { s.bank w b with state := .free } ∧
      (s.releaseClaim w p).windows = s.windows.set w.val
        { s.win w with
          order := rest
          claims := (s.win w).claims.set p.val
            { s.claim w p with bank := none, claimdl := none, closing := false, deferred := false } } ∧
      (∀ q, (s.releaseClaim w p).port q =
        if q = p ∨ (q = (s.cfg w).producer ∧ (s.win w).prod.bank = none) then (s.port q).afterRelease w else s.port q) ∧
      { s.releaseClaim w p with ports := s.ports, windows := s.windows, pool := s.pool } = s)

/-! ### Responses, grants and completions (chapters 7, 8) -/

/-- R139, R140: the oldest entry, when ANSWERED, is returned with its tag and code and leaves the list: a READ answered OKAY as the
beats of its data, one answered REFUSED or FAULT as beats of 0x00, a WRITE without data. An oldest entry that is not ANSWERED is not
returned (the command then changes nothing, log 2). Byte by byte a beat of an OKAY READ carries the bytes of the span that lie in
it, each at the lane of its address modulo 8 (the model's choice, log 6, PRESUMED), and 0x00 in every other lane: those outside the
span (R139), and, in a beat narrower than 8 bytes, those whose addresses lie in another beat (the model's choice, log 23). -/
def Obligations.ResponseReturned : Prop :=
  (∀ (s : State) (p : PortId) (e : Entry) (rest : List Entry) (code : Code), s.rstn = true →
    (s.port p).entries = e :: rest → e.state = .answered → e.code = some code →
    ∃ t, exec (.responseReturn p) s = .next t ∧ t.port p = { s.port p with entries := rest } ∧ s.PortsBut t p ∧
      t.out.responses[p] = some
        { tag := e.txn.tag, kind := e.txn.kind, code := code,
          beats :=
            if e.txn.kind = .write then []
            else if code = .okay then (List.range (e.txn.burst.val + 1)).map (responseBeat e.txn e.data)
            else List.replicate (e.txn.burst.val + 1) 0 } ∧
      (∀ q : PortId, q ≠ p → t.out.responses[q] = s.out.responses[q]) ∧
      { t with ports := s.ports, out := { t.out with responses := s.out.responses } } = s)
  ∧ (∀ (s : State) (p : PortId), ((s.port p).entries = [] ∨ ∃ e rest, (s.port p).entries = e :: rest ∧ e.state ≠ .answered) →
      exec (.responseReturn p) s = .next s)
  ∧ (∀ (x : Txn) (data : List Byte) (i lane a : Nat), lane < 8 → a = x.addr.toNat + i * x.beatSize.bytes →
      (responseBeat x data i).extractLsb' (8 * lane) 8 =
        if a ≤ a / 8 * 8 + lane ∧ a / 8 * 8 + lane < a + x.beatSize.bytes then
          data.getD (a / 8 * 8 + lane - x.addr.toNat) 0
        else 0)

/-- R145, R146, R147, R149: a grant takes the oldest request of the first requester, from the pointer on, whose queue is not empty,
adds PBASE for a port's window request, issues it on M with the requester's number as tag, appends it to the outstanding-issue list
and moves the pointer past the requester. With 32 entries outstanding, or nothing queued, no grant is made (the command then changes
nothing, log 2). -/
def Obligations.GrantIssues : Prop :=
  (∀ (s : State) (k : Nat) (r : Requester) (q : MemReq) (rest : List MemReq), s.rstn = true →
    s.mport.outstanding.length < 32 → k < 5 → r = s.mport.pointer + Fin.ofNat 5 k →
    (∀ j, j < k → s.mport.queues[s.mport.pointer + Fin.ofNat 5 j] = []) → s.mport.queues[r] = q :: rest →
    ∃ t addr, exec .grant s = .next t ∧
      (∀ w b, q.window = some w → q.bank = some b → addr = (s.bank w b).pbase + q.offset) ∧
      (q.window = none ∨ q.bank = none → addr = q.offset) ∧
      t.mport =
        { queues := s.mport.queues.set r.val rest
          outstanding := s.mport.outstanding ++
            [{ owner := q.owner, ref := q.ref, window := q.window, kind := q.kind, addr := addr, beatSize := q.beatSize,
               burst := q.burst, pos := q.pos }]
          pointer := r + 1 } ∧
      t.out.issued = some
        { addr := addr, kind := q.kind, beatSize := q.beatSize, burst := q.burst, wdata := q.wdata, wen := q.wen,
          tag := q.owner } ∧
      { t with mport := s.mport, out := { t.out with issued := s.out.issued } } = s)
  ∧ (∀ s : State, (32 ≤ s.mport.outstanding.length ∨ ∀ r : Requester, s.mport.queues[r] = []) → exec .grant s = .next s)

/-- R132, R138, R150, R153: the completion of a pass-through transaction answers its entry OKAY or FAULT and reaches no window; one of
a part that is not its transaction's last lowers PARTS and places its bytes, and reaches no window either; one that arrives with
nothing outstanding is discarded. -/
def Obligations.PartCompletes : Prop :=
  (∀ (s : State) (p : PortId) (o : Issue) (e : Entry) (ok : Bool) (rdata : Burst), s.LastPart p o e → o.window = none →
    ∃ t, exec (.memoryCompletion ok rdata) s = .next t ∧ s.CompletesEntry t p o ok rdata ∧
      { t with ports := s.ports, mport := s.mport } = s)
  ∧ (∀ (s : State) (p : PortId) (o : Issue) (rest : List Issue) (e : Entry) (ok : Bool) (rdata : Burst), s.rstn = true →
      s.mport.outstanding = o :: rest → o.owner = requesterOf p →
      (s.port p).entries.find? (Entry.isRef o.ref) = some e → 1 < e.parts →
      ∃ t, exec (.memoryCompletion ok rdata) s = .next t ∧
        t.port p =
          { s.port p with
            entries := modFirst (Entry.isRef o.ref)
              (fun e =>
                { e with
                  parts := e.parts - 1
                  errored := e.errored || !ok
                  data := if o.kind = .read then placeBytes o.pos o.bytes rdata e.data else e.data })
              (s.port p).entries } ∧
        s.PortsBut t p ∧ t.mport = { s.mport with outstanding := rest } ∧
        { t with ports := s.ports, mport := s.mport } = s)
  ∧ (∀ (s : State) (ok : Bool) (rdata : Burst), s.mport.outstanding = [] →
      exec (.memoryCompletion ok rdata) s = .next s)
  ∧ (∀ (pos n : Nat) (rdata : Burst) (data : List Byte) (i : Nat), i < data.length →
      (placeBytes pos n rdata data)[i]? =
        if pos ≤ i ∧ i < pos + n then some (rdata.extractLsb' (8 * (i - pos)) 8) else data[i]?)

/-- R34, R35, R36, R44, R96: the completion of a producer write in an ACTIVE window is recorded in the bank. While the session stays
open nothing more happens; the trigger's own completion takes the commit decision; the one that brings WINFLIGHT of an EXPIRING bank
to 0 abandons the session. Where that last one is itself answered ERROR, MEM_WRITE_ERROR is offered before OPEN_ABANDONED, an order
that no rule gives: the model's choice (log 20, DESIGN CHOICE). -/
def Obligations.ProducerWriteCompletes : Prop :=
  ∀ (s : State) (p : PortId) (o : Issue) (e : Entry) (w : WinId) (b : BankId) (ok : Bool) (rdata : Burst),
    s.LastWrite p o e w b → (s.win w).life = .active →
    (((s.bank w b).state = .filling ∨
        (((s.bank w b).state = .expiring ∨ ((s.bank w b).state = .committing ∧ e.trigger = false)) ∧
          1 < (s.bank w b).winflight)) →
      ∃ t, exec (.memoryCompletion ok rdata) s = .next t ∧ s.RecordsWrite t p o e w b ok rdata) ∧
    ((s.bank w b).state = .committing → e.trigger = true →
      ∃ u, s.RecordsWrite u p o e w b ok rdata ∧
        exec (.memoryCompletion ok rdata) s = .next (u.commitDecision w b)) ∧
    ((s.bank w b).state = .committing → (s.bank w b).winflight = 1 →
      ∃ u, s.RecordsWrite u p o e w b ok rdata ∧
        exec (.memoryCompletion ok rdata) s = .next (u.commitDecision w b)) ∧
    ((s.bank w b).state = .expiring → (s.bank w b).winflight = 1 →
      ∃ u, s.RecordsWrite u p o e w b ok rdata ∧
        exec (.memoryCompletion ok rdata) s = .next (u.drop w b (some .openAbandoned)))

/-- R36, R96: the commit decision. In SNAPSHOT a poisoned session is dropped, a fully covered one published, a partly covered one
dropped or merged as PARTIAL says; in QUEUE POISON alone decides between a drop and a commit. -/
def Obligations.CommitDecisionTable : Prop :=
  ∀ (s : State) (w : WinId) (b : BankId),
    ((s.cfg w).mode = .snapshot →
      ((s.bank w b).poison = true → s.commitDecision w b = s.drop w b (some .droppedPoison)) ∧
      ((s.bank w b).poison = false →
        ((∀ g, g < (s.cfg w).granuleCount → g ∈ (s.bank w b).cover) → s.commitDecision w b = s.publish w b) ∧
        (∀ g, g < (s.cfg w).granuleCount → g ∉ (s.bank w b).cover →
          ((s.cfg w).partialPolicy = .discard → s.commitDecision w b = s.drop w b (some .droppedPartial)) ∧
          ((s.cfg w).partialPolicy = .merge → s.commitDecision w b = s.beginMerge w b)))) ∧
    ((s.cfg w).mode = .queue →
      ((s.bank w b).poison = true → s.commitDecision w b = s.drop w b (some .droppedPoison)) ∧
      ((s.bank w b).poison = false → s.commitDecision w b = s.queueCommit w b))

/-- R39, R40, R122: a publication makes the producer bank CURRENT with its SEQ, STAMP, LENGTH and WRITTEN; the former CURRENT bank
becomes HELD when it is claimed and FREE when it is not, and MISSED rises for every consumer whose LASTSEQ is another; the producer
port receives a release event. -/
def Obligations.Publication : Prop :=
  ∀ (s : State) (w : WinId) (b : BankId), (s.recordOf w b).isSome = true → (s.bank w b).state ≠ .current →
    (s.publish w b).bank w b =
      { s.bank w b with
        state := .current, seq := (s.win w).prod.nextseq, stamp := s.time.stamp, length := (s.cfg w).granuleCount
        written := (s.bank w b).cover.length } ∧
    ((s.publish w b).win w).prod =
      { bank := none, opendl := none
        nextseq := if (s.win w).prod.nextseq = 65535 then 1 else (s.win w).prod.nextseq + 1
        lastdrop := false, lastrefused := (s.win w).prod.lastrefused, laststamp := s.time.stamp } ∧
    (∀ x, x ≠ w → (s.publish w b).win x = s.win x) ∧
    { (s.publish w b).win w with prod := (s.win w).prod, commits := (s.win w).commits, claims := (s.win w).claims }
      = s.win w ∧
    ((s.publish w b).win w).commits = (s.win w).commits + 1 ∧
    (∀ q, (s.publish w b).port q = if q = (s.cfg w).producer then (s.port q).afterRelease w else s.port q) ∧
    { s.publish w b with ports := s.ports, windows := s.windows, pool := s.pool } = s ∧
    (s.NoCurrent w → (∀ q, (s.publish w b).claim w q = s.claim w q) ∧
      ∀ i : RecId, s.recordOf w b ≠ some i → (s.publish w b).pool[i] = s.pool[i]) ∧
    (∀ o, s.IsCurrent w o →
      (s.publish w b).bank w o = { s.bank w o with state := if (s.bank w o).holders = 0 then .free else .held } ∧
      (∀ q, (s.publish w b).claim w q =
        if hasPort (s.cfg w).consumers q = true ∧ (s.claim w q).lastseq ≠ (s.bank w o).seq then
          { s.claim w q with missed := if (s.claim w q).missed = 255 then 255 else (s.claim w q).missed + 1 }
        else s.claim w q) ∧
      ∀ i : RecId, s.recordOf w b ≠ some i → s.recordOf w o ≠ some i → (s.publish w b).pool[i] = s.pool[i])

/-- R37, R43, R44, R99: a drop makes the bank FREE, ends the session with LASTDROP and DROPS, offers the fault of its cause, and sends
the producer port a release event; CURRENT, the claims, the order list and NEXTSEQ stay. -/
def Obligations.DropEndsSession : Prop :=
  ∀ (s : State) (w : WinId) (b : BankId) (cause : Option FaultKind), (s.recordOf w b).isSome = true →
    s.ChangesBank (s.drop w b cause) w b { s.bank w b with state := .free } ∧
    (s.drop w b cause).windows = s.windows.set w.val
      { s.win w with
        drops := (s.win w).drops + 1
        prod := { (s.win w).prod with bank := none, opendl := none, lastdrop := true } } ∧
    (∀ k, cause = some k → (s.drop w b cause).faults = (s.offer k (some w) (some (s.cfg w).producer) none).faults) ∧
    (cause = none → (s.drop w b cause).faults = s.faults) ∧
    (∀ q, (s.drop w b cause).port q = if q = (s.cfg w).producer then (s.port q).afterRelease w else s.port q) ∧
    { s.drop w b cause with ports := s.ports, windows := s.windows, pool := s.pool, faults := s.faults } = s

/-- R38, R70 to R73, R75: the MERGE decision makes the bank MERGING and appends a job of the uncovered granules, its source the
CURRENT bank or PATTERN. A job appended to an empty list starts in the same event: a read of the first granule of the source, or a
pattern write to the destination, is requested and counted in OUTSTANDING; behind another job it waits. -/
def Obligations.MergeAppended : Prop :=
  ∀ (s : State) (w : WinId) (b : BankId) (src : Option BankId) (pending : List Nat), (s.recordOf w b).isSome = true →
    ((src = none ∧ s.NoCurrent w) ∨ ∃ o, src = some o ∧ s.IsCurrent w o) →
    pending = (List.range (s.cfg w).granuleCount).filter (fun g => decide (g ∉ (s.bank w b).cover)) →
    (s.engine.jobs ≠ [] →
      s.ChangesBank (s.beginMerge w b) w b { s.bank w b with state := .merging } ∧
      (s.beginMerge w b).engine.jobs = s.engine.jobs ++
        [{ window := w, dest := b, source := src, pending := pending, filled := 0, phase := .waiting, aborted := false }] ∧
      { s.beginMerge w b with pool := s.pool, engine := s.engine } = s) ∧
    (∀ (g : Nat) (rest : List Nat), s.engine.jobs = [] → pending = g :: rest →
      s.ChangesBank (s.beginMerge w b) w b { s.bank w b with state := .merging } ∧
      (s.beginMerge w b).engine.jobs =
        [{ window := w, dest := b, source := src, pending := pending, filled := 0,
           phase := if src = none then .writing else .reading, aborted := false }] ∧
      (s.beginMerge w b).engine.buffer = s.engine.buffer ∧
      (s.beginMerge w b).windows = s.windows.set w.val { s.win w with outstanding := (s.win w).outstanding + 1 } ∧
      (s.beginMerge w b).mport =
        { s.mport with
          queues := s.mport.queues.set 4 (s.mport.queues[4] ++
            [{ owner := 4, ref := .job w, window := some w, bank := none
               kind := if src = none then .write else .read
               offset := (match src with
                 | none => (s.bank w b).pbase
                 | some o => (s.bank w o).pbase) + BitVec.ofNat 40 (64 * g)
               beatSize := .b8, burst := 7
               wdata := if src = none then (BitVec.replicate 64 (s.cfg w).fillbyte).setWidth 1024 else 0
               wen := if src = none then (BitVec.allOnes 64).setWidth 128 else 0
               pos := 0 }]) } ∧
      { s.beginMerge w b with windows := s.windows, pool := s.pool, engine := s.engine, mport := s.mport } = s)

/-- R97, R98, R122: a QUEUE commit appends the bank at the tail of the order list with SEQ, STAMP, the fill length (the highest
covered granule plus one, 1 when none is covered), WRITTEN and DELIVERIES 0; the producer port receives a release event. -/
def Obligations.QueueCommitAppends : Prop :=
  ∀ (s : State) (w : WinId) (b : BankId), (s.recordOf w b).isSome = true →
    ∃ length : Nat,
      ((s.bank w b).cover = [] → length = 1) ∧ (∀ g ∈ (s.bank w b).cover, g < length) ∧
      ((s.bank w b).cover ≠ [] → ∃ g ∈ (s.bank w b).cover, length = g + 1) ∧
      s.ChangesBank (s.queueCommit w b) w b
        { s.bank w b with
          state := .queued, seq := (s.win w).prod.nextseq, stamp := s.time.stamp, length := length
          written := (s.bank w b).cover.length, deliveries := 0 } ∧
      (s.queueCommit w b).windows = s.windows.set w.val
        { s.win w with
          order := (s.win w).order ++ [b]
          commits := (s.win w).commits + 1
          prod :=
            { (s.win w).prod with
              bank := none, opendl := none
              nextseq := if (s.win w).prod.nextseq = 65535 then 1 else (s.win w).prod.nextseq + 1
              lastdrop := false, laststamp := s.time.stamp } } ∧
      (∀ q, (s.queueCommit w b).port q = if q = (s.cfg w).producer then (s.port q).afterRelease w else s.port q) ∧
      { s.queueCommit w b with ports := s.ports, windows := s.windows, pool := s.pool } = s

/-- R47, R55, R104, R112: the completion of a read in an ACTIVE window. A consumer's lowers READS; at READS 0 a CLOSING claim is
released and otherwise a DEFERRED one expires. A producer's changes no claim. Where a failed read's completion takes the deferred
expiry, MEM_READ_ERROR is offered before CLAIM_EXPIRED (log 20, DEDUCED from R55 and R65). R64, R109: what that expiry does: the
claim ends with EXPIRED, EXPIRIES and CLAIM_EXPIRED; in SNAPSHOT the port leaves HOLDERS, a HELD bank without a holder becomes FREE
and the port receives a release event; in QUEUE no bank, no order list and no port changes. -/
def Obligations.ReadCompletes : Prop :=
  (∀ (s : State) (p : PortId) (o : Issue) (e : Entry) (w : WinId) (ok : Bool) (rdata : Burst),
    s.LastRead p o e w → (s.win w).life = .active →
    ((s.cfg w).producer = p →
      ∃ t, exec (.memoryCompletion ok rdata) s = .next t ∧ s.RecordsRead t p o e w (s.claim w p) ok rdata) ∧
    ((s.cfg w).producer ≠ p →
      ∃ u, s.RecordsRead u p o e w { s.claim w p with reads := (s.claim w p).reads - 1 } ok rdata ∧
        exec (.memoryCompletion ok rdata) s = .next
          (if 1 < (s.claim w p).reads then u
           else if (s.claim w p).closing = true then u.releaseClaim w p
           else if (s.claim w p).deferred = true then u.claimExpiry w p
           else u)))
  ∧ (∀ (s : State) (w : WinId) (p : PortId) (b : BankId), (s.claim w p).bank = some b →
      ((s.cfg w).mode = .snapshot → (s.recordOf w b).isSome = true →
        s.ChangesBank (s.claimExpiry w p) w b
          { s.bank w b with
            holders := removePort (s.bank w b).holders p
            state :=
              if (s.bank w b).state = .held ∧ removePort (s.bank w b).holders p = 0 then .free
              else (s.bank w b).state } ∧
        (∀ q, (s.claimExpiry w p).port q = if q = p then (s.port q).afterRelease w else s.port q)) ∧
      ((s.cfg w).mode = .queue → (s.claimExpiry w p).pool = s.pool ∧ (s.claimExpiry w p).ports = s.ports) ∧
      (s.claimExpiry w p).windows = s.windows.set w.val
        { s.win w with
          expiries := (s.win w).expiries + 1
          claims := (s.win w).claims.set p.val
            { s.claim w p with
              bank := none, claimdl := none, closing := false, deferred := false, expired := true } } ∧
      (s.claimExpiry w p).faults = (s.offer .claimExpired (some w) (some p) none).faults ∧
      { s.claimExpiry w p with ports := s.ports, windows := s.windows, pool := s.pool, faults := s.faults } = s)

/-- R20, R21, R152: while a window drains, a completion of one of its transactions is answered and counted down, and nothing else
follows: no coverage, no poison, no decision, no release, no expiry; the one that brings OUTSTANDING to 0 ends the drain. -/
def Obligations.DrainingCompletion : Prop :=
  ∀ (s : State) (p : PortId) (o : Issue) (e : Entry) (w : WinId) (ok : Bool) (rdata : Burst),
    (s.win w).life.draining = true →
    (∀ b : BankId, s.LastWrite p o e w b →
      ∃ u, s.CompletesEntry u p o ok rdata ∧
        s.ChangesBank u w b { s.bank w b with winflight := (s.bank w b).winflight - 1 } ∧
        u.windows = s.windows.set w.val { s.win w with outstanding := (s.win w).outstanding - 1 } ∧
        u.faults =
          (if ok then s.faults
           else (s.offer .memWriteError (some w) (some (s.cfg w).producer) (some (startGranule (s.cfg w) e.txn))).faults) ∧
        { u with ports := s.ports, windows := s.windows, pool := s.pool, mport := s.mport, faults := s.faults } = s ∧
        exec (.memoryCompletion ok rdata) s =
          .next (if (s.win w).outstanding ≤ 1 then u.drainComplete w else u)) ∧
    (s.LastRead p o e w → (s.cfg w).producer ≠ p →
      ∃ u, s.RecordsRead u p o e w { s.claim w p with reads := (s.claim w p).reads - 1 } ok rdata ∧
        exec (.memoryCompletion ok rdata) s =
          .next (if (s.win w).outstanding ≤ 1 then u.drainComplete w else u)) ∧
    (s.LastRead p o e w → (s.cfg w).producer = p →
      ∃ u, s.RecordsRead u p o e w (s.claim w p) ok rdata ∧
        exec (.memoryCompletion ok rdata) s =
          .next (if (s.win w).outstanding ≤ 1 then u.drainComplete w else u))

/-- R74, R75, R76: the completion of an operation of a running job. A granule read is buffered and its write requested; a granule
write takes the granule from PENDING, and the next granule starts. OUTSTANDING of the window is unchanged across it. -/
def Obligations.MergeGoesOn : Prop :=
  ∀ (s : State) (o : Issue) (j : Job) (rdata : Burst), s.EngineNext o j → (s.win j.window).life = .active → j.aborted = false →
    (∀ (g : Nat) (rest : List Nat), j.phase = .reading → j.pending = g :: rest →
      ∃ t, exec (.memoryCompletion true rdata) s = .next t ∧
        t.engine = { jobs := { j with phase := .writing } :: s.engine.jobs.tail, buffer := rdata.setWidth 512 } ∧
        t.mport =
          { s.mport with
            outstanding := s.mport.outstanding.tail
            queues := s.mport.queues.set 4 (s.mport.queues[4] ++
              [{ owner := 4, ref := .job j.window, window := some j.window, bank := none, kind := .write
                 offset := (s.bank j.window j.dest).pbase + BitVec.ofNat 40 (64 * g)
                 beatSize := .b8, burst := 7, wdata := (rdata.setWidth 512).setWidth 1024
                 wen := (BitVec.allOnes 64).setWidth 128, pos := 0 }]) } ∧
        { t with engine := s.engine, mport := s.mport } = s) ∧
    (∀ (g h : Nat) (rest : List Nat), j.phase = .writing → j.pending = g :: h :: rest →
      ∃ t, exec (.memoryCompletion true rdata) s = .next t ∧
        t.engine =
          { jobs :=
              { j with
                pending := h :: rest, filled := j.filled + 1
                phase := if j.source = none then .writing else .reading } :: s.engine.jobs.tail
            buffer := s.engine.buffer } ∧
        t.mport =
          { s.mport with
            outstanding := s.mport.outstanding.tail
            queues := s.mport.queues.set 4 (s.mport.queues[4] ++
              [{ owner := 4, ref := .job j.window, window := some j.window, bank := none
                 kind := if j.source = none then .write else .read
                 offset := (match j.source with
                   | none => (s.bank j.window j.dest).pbase
                   | some b => (s.bank j.window b).pbase) + BitVec.ofNat 40 (64 * h)
                 beatSize := .b8, burst := 7
                 wdata := if j.source = none then (BitVec.replicate 64 (s.cfg j.window).fillbyte).setWidth 1024 else 0
                 wen := if j.source = none then (BitVec.allOnes 64).setWidth 128 else 0
                 pos := 0 }]) } ∧
        { t with engine := s.engine, mport := s.mport } = s)

/-- R78, R79, R82: a job leaves the list at the end of its last granule's write, with the image published and MERGED and PATTERNED
set; at a memory error, with MERGE_ERROR at the failing granule and the bank dropped; and, aborted, at its one operation's
completion, whatever memory answered, with neither. The completion counts down OUTSTANDING, and the next job starts. That the
granule buffer, discarded by R79 and R82, keeps its bytes is the model's choice (log 14, DESIGN CHOICE); no rule reads them. -/
def Obligations.MergeEnds : Prop :=
  ∀ (s : State) (o : Issue) (j : Job) (ok : Bool) (rdata : Burst), s.EngineNext o j →
    (s.recordOf j.window j.dest).isSome = true →
    (∀ g : Nat, ok = true → j.aborted = false → j.phase = .writing → j.pending = [g] →
      ∃ u, s.ChangesBank u j.window j.dest
          { s.bank j.window j.dest with merged := j.filled + 1, patterned := decide (j.source = none) } ∧
        u.engine = { s.engine with jobs := s.engine.jobs.tail } ∧
        u.mport = { s.mport with outstanding := s.mport.outstanding.tail } ∧
        { u with pool := s.pool, engine := s.engine, mport := s.mport } = s ∧
        exec (.memoryCompletion ok rdata) s =
          .next (((u.publish j.window j.dest).opDone j.window).startHead)) ∧
    (ok = false → j.aborted = false →
      ∃ u : State, u.faults = (s.offer .mergeError (some j.window) none j.pending.head?).faults ∧
        u.engine = { s.engine with jobs := s.engine.jobs.tail } ∧
        u.mport = { s.mport with outstanding := s.mport.outstanding.tail } ∧
        { u with faults := s.faults, engine := s.engine, mport := s.mport } = s ∧
        exec (.memoryCompletion ok rdata) s =
          .next (((u.drop j.window j.dest none).opDone j.window).startHead)) ∧
    (j.aborted = true →
      ∃ u : State, u.engine = { s.engine with jobs := s.engine.jobs.tail } ∧
        u.mport = { s.mport with outstanding := s.mport.outstanding.tail } ∧
        { u with engine := s.engine, mport := s.mport } = s ∧
        exec (.memoryCompletion ok rdata) s = .next ((u.opDone j.window).startHead))

/-! ### Deadlines (chapter 9) -/

/-- R43, R44: an open deadline that is due ends the session at once when no write is in flight: bank FREE, LASTDROP, EXPIRIES and
DROPS, OPEN_ABANDONED, no release event; with writes in flight the bank becomes EXPIRING and EXPIRIES rises. A command for one that
is not due changes nothing (log 2, DEDUCED from R159). -/
def Obligations.OpenDeadlineTaken : Prop :=
  (∀ (s : State) (w : WinId) (b : BankId), s.rstn = true → (s.win w).prod.opendl = some s.time.stamp →
      (s.win w).prod.bank = some b → (s.recordOf w b).isSome = true →
      ((s.bank w b).winflight = 0 →
        ∃ t, exec (.openDeadline w) s = .next t ∧
          s.ChangesBank t w b { s.bank w b with state := .free } ∧
          t.windows = s.windows.set w.val
            { s.win w with
              prod := { (s.win w).prod with bank := none, opendl := none, lastdrop := true }
              expiries := (s.win w).expiries + 1, drops := (s.win w).drops + 1 } ∧
          t.faults = (s.offer .openAbandoned (some w) (some (s.cfg w).producer) none).faults ∧
          { t with windows := s.windows, pool := s.pool, faults := s.faults } = s) ∧
      ((s.bank w b).winflight ≠ 0 →
        ∃ t, exec (.openDeadline w) s = .next t ∧
          s.ChangesBank t w b { s.bank w b with state := .expiring } ∧
          t.windows = s.windows.set w.val
            { s.win w with prod := { (s.win w).prod with opendl := none }, expiries := (s.win w).expiries + 1 } ∧
          { t with windows := s.windows, pool := s.pool } = s))
  ∧ (∀ (s : State) (w : WinId), (s.win w).prod.opendl ≠ some s.time.stamp → exec (.openDeadline w) s = .next s)

/-- R64, R65, R109, R110: a claim deadline that is due, with no read in flight, ends the claim with EXPIRED, EXPIRIES and
CLAIM_EXPIRED. In SNAPSHOT the port leaves HOLDERS, a HELD bank without a holder becomes FREE and the port receives a release
event; in QUEUE no bank, no order list and no port changes. With reads in flight DEFERRED is set, CLAIMDL becomes none and nothing
else changes. A command for a deadline that is not due changes nothing (log 2, DEDUCED from R159). -/
def Obligations.ClaimDeadlineTaken : Prop :=
  (∀ (s : State) (w : WinId) (p : PortId), s.rstn = true → (s.claim w p).claimdl = some s.time.stamp →
      (∀ b : BankId, (s.cfg w).mode = .snapshot → (s.claim w p).bank = some b → (s.recordOf w b).isSome = true →
        (s.claim w p).reads = 0 →
        ∃ t, exec (.claimDeadline w p) s = .next t ∧
          s.ChangesBank t w b
            { s.bank w b with
              holders := removePort (s.bank w b).holders p
              state :=
                if (s.bank w b).state = .held ∧ removePort (s.bank w b).holders p = 0 then .free
                else (s.bank w b).state } ∧
          t.windows = s.windows.set w.val
            { s.win w with
              expiries := (s.win w).expiries + 1
              claims := (s.win w).claims.set p.val
                { s.claim w p with
                  bank := none, claimdl := none, closing := false, deferred := false, expired := true } } ∧
          (∀ q, t.port q = if q = p then (s.port q).afterRelease w else s.port q) ∧
          t.faults = (s.offer .claimExpired (some w) (some p) none).faults ∧
          { t with ports := s.ports, windows := s.windows, pool := s.pool, faults := s.faults } = s) ∧
      ((s.cfg w).mode = .queue → (s.claim w p).reads = 0 →
        ∃ t, exec (.claimDeadline w p) s = .next t ∧
          t.windows = s.windows.set w.val
            { s.win w with
              expiries := (s.win w).expiries + 1
              claims := (s.win w).claims.set p.val
                { s.claim w p with
                  bank := none, claimdl := none, closing := false, deferred := false, expired := true } } ∧
          t.faults = (s.offer .claimExpired (some w) (some p) none).faults ∧
          { t with windows := s.windows, faults := s.faults } = s) ∧
      ((s.claim w p).reads ≠ 0 →
        ∃ t, exec (.claimDeadline w p) s = .next t ∧
          t.windows = s.windows.set w.val
            { s.win w with
              claims := (s.win w).claims.set p.val { s.claim w p with deferred := true, claimdl := none } } ∧
          { t with windows := s.windows } = s))
  ∧ (∀ (s : State) (w : WinId) (p : PortId), (s.claim w p).claimdl ≠ some s.time.stamp →
      exec (.claimDeadline w p) s = .next s)

/-- R136: a hold deadline that is due answers the held entry REFUSED; the window that held it counts REFUSALS and EXPIRIES, a
producer write sets LASTREFUSED, and HOLD_EXPIRED is offered with the granule of the start address. A command for a deadline that is
not due changes nothing (log 2, DEDUCED from R159). -/
def Obligations.HoldDeadlineTaken : Prop :=
  (∀ (s : State) (p : PortId) (w : WinId) (e : Entry), s.rstn = true →
      (s.port p).entries.find? Entry.isHeld = some e → e.holdwin = some w → e.holddl = some s.time.stamp →
      ∃ t, exec (.holdDeadline p) s = .next t ∧
        t.port p =
          { s.port p with
            entries := modFirst Entry.isHeld
              (fun e =>
                { e with state := .answered, code := some .refused, data := [], holdwin := none, holddl := none })
              (s.port p).entries } ∧
        s.PortsBut t p ∧
        t.windows = s.windows.set w.val
          { s.win w with
            refusals := (s.win w).refusals + 1
            expiries := (s.win w).expiries + 1
            prod :=
              { (s.win w).prod with
                lastrefused := (s.win w).prod.lastrefused || (decide (e.txn.kind = .write) && decide ((s.cfg w).producer = p)) } } ∧
        t.faults =
          (s.offer .holdExpired (some w) (some p) (some ((e.txn.addr.toNat - (s.cfg w).base.toNat) / 64))).faults ∧
        { t with ports := s.ports, windows := s.windows, faults := s.faults } = s)
  ∧ (∀ (s : State) (p : PortId), (∀ e ∈ (s.port p).entries, e.state = .held → e.holddl ≠ some s.time.stamp) →
      exec (.holdDeadline p) s = .next s)

/-! ### Ready lines and FLT (chapter 10) -/

/-- R163, R164, R165, R169: a ready line is the OR of its windows' terms, an ACTIVE window's role, enable and condition; FLT is on
while the fault queue is not empty. The producer-ready condition holds exactly when a producer write dispatched in the same state
would be steered into a bank or would open a session, and not be held or refused for the full queue (in SNAPSHOT a FREE bank stands
ready when there is no producer bank, R26; ExchangeSoundKept says so of every sound state). -/
def Obligations.ReadyLines : Prop :=
  (∀ (s : State) (p : PortId), s.rstn = true →
    (s.rdy p = true ↔ ∃ w, (s.win w).life = .active ∧
      (((s.cfg w).producer = p ∧ (s.cfg w).rdyProducer = true ∧ s.producerReady w = true) ∨
        (hasPort (s.cfg w).consumers p = true ∧ (s.cfg w).rdyConsumer = true ∧ s.consumerReady w p = true))))
  ∧ (∀ (s : State) (w : WinId) (p : PortId),
      ((s.cfg w).mode = .snapshot →
        (s.NoCurrent w → s.consumerReady w p = false) ∧
        (∀ b, s.IsCurrent w b → (s.consumerReady w p = true ↔ (s.bank w b).seq ≠ (s.claim w p).lastseq))) ∧
      ((s.cfg w).mode = .queue →
        (s.consumerReady w p = true ↔ (s.win w).order ≠ [] ∧ (s.claim w p).bank = none)))
  ∧ (∀ s : State, s.rstn = true → (s.flt = true ↔ s.faults.queue ≠ []))
  ∧ (∀ (s : State) (p : PortId) (e : Entry) (w : WinId), s.ProducerDispatch p e w → e.txn.kind = .write →
      ((s.cfg w).mode = .snapshot → (s.win w).prod.bank = none → ¬ s.NoFree w) →
      (s.producerReady w = true ↔
        ∃ t, exec (.dispatch p) s = .next t ∧
          (s.AnswersEntry t p .okay [] ∨ ∃ parts b trigger, s.SendsEntry t p parts [] (some b) trigger)))

/-! ### The management link (chapter 11) -/

/-- R178, R176: a frame whose clock count is neither 0 nor 64 changes nothing outside the link controller; the answer latch becomes
FRAMEERR with opcode 0x00 and data 0x00, whatever BUSY is. A count of 0 is no frame: the latch keeps its contents (a FRAME_ERROR
command with 0 bits runs as such a frame: log 16, DEDUCED). CSn rising with no frame in progress changes the receiver alone. The
record of SDO, with the frame's clocks counted up to 255, is the model's own (log 5). -/
def Obligations.FramesDiscarded : Prop :=
  (∀ (s : State) (bits : List Bool), s.receives = true → bits.length ≠ 0 → bits.length ≠ 64 →
    ∃ t, exec (.frameError bits) s = .next t ∧ t.link.latch = ⟨.frameErr, 0, Vector.replicate 6 0⟩ ∧
      t.link.receiver = .idle ∧ s.apartFromAnswer t = s ∧
      t.out = { s.out with sdo := some ⟨s.link.latch, min bits.length 255⟩ })
  ∧ (∀ s : State, s.receives = true →
      exec (.frameError []) s = .next { s with link := { s.link with receiver := .idle } })
  ∧ (∀ s : State, s.rstn = true →
      exec .csnRiseWithoutFrame s = .next { s with link := { s.link with receiver := .idle } })

/-- R177, R180: checks 1 to 3, the status and reason codes, and the answer as it travels. With BUSY on, a request that is neither STATUS
nor a read command is answered BUSY and not executed; an opcode outside the command set is answered BADFIELD; a command that names
a window above 15 is answered BADWINDOW, a read command whether BUSY is on or not. An answer is its status code, the opcode and six
data bytes, shifted out byte 0 first and each byte most significant bit first, with 0 from the 65th clock on. -/
def Obligations.RequestChecks : Prop :=
  (∀ (s : State) (c : Instr) (op : Byte), s.receives = true → s.link.busy = true → opcodeOf c = some op →
    op ∉ [0x01#8, 0x11#8, 0x30#8, 0x31#8, 0x32#8, 0x33#8, 0x34#8, 0x50#8] →
    ∃ t, exec c s = .next t ∧ s.Answered t op .busy [] ∧ s.apartFromAnswer t = s)
  ∧ (∀ (s : State) (op : Byte) (r : LinkReq), s.LinkReady → isCommandOpcode op = false →
      ∃ t, exec (.undefinedOpcode op r) s = .next t ∧ s.Answered t op .badField [] ∧ s.apartFromAnswer t = s)
  ∧ (∀ (s : State) (r : LinkReq) (c : Instr) (op : Byte), s.LinkReady → 15 < r.window.toNat → opcodeOf c = some op →
      c ∈ [.stageWrite r, .stageRead r, .enable r, .disable r, .suspend r, .resume r, .windowRead r, .bankRead r,
        .claimRead r, .counterRead r, .counterClear r] →
      ∃ t, exec c s = .next t ∧ s.Answered t op .badWindow [] ∧ s.apartFromAnswer t = s)
  ∧ (∀ (s : State) (r : LinkReq) (c : Instr) (op : Byte), s.receives = true → 15 < r.window.toNat → opcodeOf c = some op →
      c ∈ [.stageRead r, .windowRead r, .bankRead r, .claimRead r, .counterRead r] →
      ∃ t, exec c s = .next t ∧ s.Answered t op .badWindow [] ∧ s.apartFromAnswer t = s)
  ∧ ([Status.none, .done, .busy, .invalid, .badState, .badWindow, .badField, .empty, .frameErr].map Status.code
      = [0x00#8, 0x01#8, 0x02#8, 0x03#8, 0x04#8, 0x05#8, 0x06#8, 0x07#8, 0x08#8] ∧
    [Reason.length, .align, .bankCount, .ports, .limits, .overlapWindow, .overlapShadow, .pool].map Reason.code
      = [1#8, 2#8, 3#8, 4#8, 5#8, 6#8, 7#8, 8#8])
  ∧ (∀ (x : Answer) (n k : Nat),
      (k < 8 → n < 8 →
        x.bit (8 * k + n) =
          ([x.status.code, x.opcode, x.data[0], x.data[1], x.data[2], x.data[3], x.data[4], x.data[5]].getD k 0).getLsbD
            (7 - n)) ∧
      x.bit (64 + n) = false)

/-- R1, R180, R183: STAGE WRITE stores the value of an OFF window's field and echoes VALUE; a FIELD or value outside R1 is answered
BADFIELD, a window that is not OFF BADSTATE, and neither changes anything. STAGE READ returns the stored value in every state. A
stored field reads back as the value written, BASE and SHADOW with all 40 bits, and the other fields stay; a value is stored exactly
when its FIELD is listed and it lies in the held range of R1. -/
def Obligations.StageCommands : Prop :=
  (∀ (s : State) (r : LinkReq) (w : WinId), s.LinkReady → r.window.toNat = w.val →
    (∀ c, (s.cfg w).write r = some c → (s.win w).life = .off →
      ∃ t, exec (.stageWrite r) s = .next t ∧ s.Answered t 0x10 .done (le32 r.value) ∧
        s.apartFromAnswer t = { s with link := { s.link with staged := s.link.staged.set w.val c } }) ∧
    (∀ c, (s.cfg w).write r = some c → (s.win w).life ≠ .off →
      ∃ t, exec (.stageWrite r) s = .next t ∧ s.Answered t 0x10 .badState [] ∧ s.apartFromAnswer t = s) ∧
    ((s.cfg w).write r = none →
      ∃ t, exec (.stageWrite r) s = .next t ∧ s.Answered t 0x10 .badField [] ∧ s.apartFromAnswer t = s))
  ∧ (∀ (s : State) (r : LinkReq) (w : WinId), s.receives = true → r.window.toNat = w.val →
      (∀ x, (s.cfg w).read r.field = some x →
        ∃ t, exec (.stageRead r) s = .next t ∧
          s.Answered t 0x11 .done (le32 (x.extractLsb' 0 32) ++ [x.extractLsb' 32 8]) ∧ s.apartFromAnswer t = s) ∧
      ((s.cfg w).read r.field = none →
        ∃ t, exec (.stageRead r) s = .next t ∧ s.Answered t 0x11 .badField [] ∧ s.apartFromAnswer t = s))
  ∧ (∀ (c d : WindowRec) (r : LinkReq), c.write r = some d →
    d.read r.field = some
      (if r.field = 0x02#8 ∨ (0x21 ≤ r.field.toNat ∧ r.field.toNat ≤ 0x27) then r.index ++ r.value
       else r.value.setWidth 40) ∧
    ∀ f, f ≠ r.field → d.read f = c.read f)
  ∧ (∀ (c : WindowRec) (r : LinkReq),
      ((c.write r).isSome = true ↔
        (r.field.toNat ∈ [0x01, 0x07, 0x08, 0x09, 0x0A, 0x0B] ∧ r.value.toNat < 2) ∨
        (r.field.toNat ∈ [0x05, 0x10] ∧ r.value.toNat < 4) ∨
        (r.field.toNat ∈ [0x04, 0x06] ∧ r.value.toNat < 16) ∨
        (r.field.toNat = 0x0C ∧ r.value.toNat < 256) ∨
        (r.field.toNat = 0x11 ∧ r.value.toNat < 1024) ∨
        (r.field.toNat = 0x03 ∧ r.value.toNat < 2048) ∨
        (r.field.toNat ∈ [0x0D, 0x0E, 0x0F] ∧ r.value.toNat < 65536) ∨
        r.field.toNat = 0x02 ∨ (0x21 ≤ r.field.toNat ∧ r.field.toNat ≤ 0x27)))

/-- R16, R17, R180: what each check of the ENABLE validation tests, in the order of the table: a reason is given exactly when its check
fails and every earlier one passes, and none exactly when all pass. Two ranges overlap when they share a byte address. -/
def Obligations.EnableChecks : Prop :=
  (∀ (s : State) (w : WinId),
    (∀ x : Reason, s.invalidReason w = some x ↔ (∀ y : Reason, y.code < x.code → s.PassesCheck w y) ∧ ¬ s.PassesCheck w x) ∧
    (s.invalidReason w = none ↔ ∀ y : Reason, s.PassesCheck w y))
  ∧ (∀ c : WindowRec,
      (c.badLength = true ↔
        c.granules.toNat = 0 ∨ 1024 < c.granules.toNat ∨ 2 ^ 40 < c.base.toNat + c.granules.toNat * 64 ∨
        ∃ k : Fin 7, k.val + 1 < min c.banks.toNat 8 ∧ 2 ^ 40 < (c.shadow[k]).toNat + c.granules.toNat * 64) ∧
      (c.badAlign = true ↔
        c.base.toNat % 64 ≠ 0 ∨ ∃ k : Fin 7, k.val + 1 < min c.banks.toNat 8 ∧ (c.shadow[k]).toNat % 64 ≠ 0) ∧
      (c.badBankCount = true ↔
        (c.mode = .snapshot ∧ (c.banks.toNat < 3 ∨ 6 < c.banks.toNat)) ∨
        (c.mode = .queue ∧ (c.banks.toNat < 1 ∨ 8 < c.banks.toNat))) ∧
      (c.badPorts = true ↔
        hasPort c.consumers c.producer = true ∨
        (c.mode = .snapshot ∧ (portCount c.consumers < 1 ∨ min 3 (c.banks.toNat - 2) < portCount c.consumers)) ∨
        (c.mode = .queue ∧ portCount c.consumers ≠ 1)))
  ∧ (∀ a b : Range, a.overlaps b = true ↔ ∃ x, a.lo ≤ x ∧ x < a.hi ∧ b.lo ≤ x ∧ x < b.hi)

/-- R9, R10, R15, R16, R18, R122, R184: ENABLE of an OFF window that passes validation takes the lowest-numbered free records, the
lowest for bank 0, gives them the values of R9 and makes the window ACTIVE as just enabled, with LASTSTAMP 0 (R122); one that fails
is answered INVALID with the reason and changes nothing; one of a window that is not OFF is answered BADSTATE. -/
def Obligations.EnableAnswers : Prop :=
  ∀ (s : State) (r : LinkReq) (w : WinId), s.LinkReady → r.window.toNat = w.val →
    ((s.win w).life = .off → s.invalidReason w = none → s.PoolAgrees →
      ∃ t, exec (.enable r) s = .next t ∧ s.Answered t 0x20 .done [] ∧
        t.windows = s.windows.set w.val
          { life := .active, outstanding := 0
            prod := { bank := none, opendl := none, nextseq := 1, lastdrop := false, lastrefused := false, laststamp := 0 }
            claims := Vector.replicate 4 Claim.cleared, order := [], commits := 0, drops := 0, refusals := 0
            expiries := 0 } ∧
        (∀ b : BankId, b.val < (s.cfg w).bankCount →
          t.recordOf w b = s.freeRecords[b.val]? ∧
          t.bank w b = BankRec.initial (some (w, b)) ((s.cfg w).bankBase b.val)) ∧
        (∀ i : RecId, i ∉ s.freeRecords.take (s.cfg w).bankCount → t.pool[i] = s.pool[i]) ∧
        { s.apartFromAnswer t with windows := s.windows, pool := s.pool } = s) ∧
    (∀ x, (s.win w).life = .off → s.invalidReason w = some x →
      ∃ t, exec (.enable r) s = .next t ∧ s.Answered t 0x20 .invalid [x.code] ∧ s.apartFromAnswer t = s) ∧
    ((s.win w).life ≠ .off →
      ∃ t, exec (.enable r) s = .next t ∧ s.Answered t 0x20 .badState [] ∧ s.apartFromAnswer t = s)

/-- R19: the entry to a draining state refuses every transaction the window holds and counts each in REFUSALS, cancels the open and
claim deadlines, aborts the window's merge job (a running one, the head, is marked; a waiting one removed) and changes the lifecycle
state; with OUTSTANDING 0 the drain ends in the same event. R9, R10, R21, R181: the end of a drain makes every bank of the window
FREE with the values of R9, empties the order list, clears the claims and the producer record but for NEXTSEQ and LASTSTAMP, keeps
the counters, and leads to SUSPENDED, ACTIVE or OFF; at OFF its records return to the pool. The window leaves the long-operation
set, and BUSY goes off when the set empties. What the granule buffer and the records returned to the pool hold then is log 14
(DESIGN CHOICE). -/
def Obligations.Drains : Prop :=
  (∀ (s : State) (w : WinId) (target : Life), target.draining = true →
      ∃ u : State,
        (∀ p, (u.port p).entries = (s.port p).entries.map fun e =>
          if e.state = .held ∧ e.holdwin = some w then
            { e with state := .answered, code := some .refused, data := [], holdwin := none, holddl := none }
          else e) ∧
        (∀ p, (u.port p).nextSerial = (s.port p).nextSerial) ∧
        (∀ x, x ≠ w → u.win x = s.win x) ∧
        (u.win w).life = target ∧
        (u.win w).refusals = (s.win w).refusals + BitVec.ofNat 32 (((List.finRange 4).map fun p => s.heldCount w p).sum) ∧
        (u.win w).prod = { (s.win w).prod with opendl := none } ∧
        (∀ p, u.claim w p = { s.claim w p with claimdl := none }) ∧
        { u.win w with
          life := (s.win w).life, refusals := (s.win w).refusals, prod := (s.win w).prod, claims := (s.win w).claims }
          = s.win w ∧
        (∀ j rest, s.engine.jobs = j :: rest →
          u.engine.jobs =
            (if j.window = w then { j with aborted := true } else j) :: rest.filter fun k => decide (k.window ≠ w)) ∧
        (s.engine.jobs = [] → u.engine.jobs = []) ∧
        u.engine.buffer = s.engine.buffer ∧
        { u with ports := s.ports, windows := s.windows, engine := s.engine } = s ∧
        s.drainEntry w target = if (s.win w).outstanding = 0 then u.drainComplete w else u)
  ∧ (∀ (s : State) (w : WinId), (s.win w).life.draining = true →
      s.drainComplete w =
        { s with
          windows := (s.drainComplete w).windows, pool := (s.drainComplete w).pool, link := (s.drainComplete w).link } ∧
      (s.drainComplete w).windows = s.windows.set w.val
        { s.win w with
          life := match (s.win w).life with
            | .suspending => .suspended
            | .restarting => .active
            | _ => .off
          order := []
          claims := Vector.replicate 4 Claim.cleared
          prod :=
            { (s.win w).prod with bank := none, opendl := none, lastdrop := false, lastrefused := false } } ∧
      (∀ (i : RecId) (b : BankId), s.pool[i].owner = some (w, b) →
        (s.drainComplete w).pool[i] =
          { BankRec.initial (some (w, b)) s.pool[i].pbase with
            owner := if (s.win w).life = .retiring then none else some (w, b) }) ∧
      (∀ i : RecId, (∀ b, s.pool[i].owner ≠ some (w, b)) → (s.drainComplete w).pool[i] = s.pool[i]) ∧
      (w ∈ s.link.longOp.windows →
        (∀ x, x ∈ (s.drainComplete w).link.longOp.windows ↔ x ∈ s.link.longOp.windows ∧ x ≠ w) ∧
        ((s.drainComplete w).link.busy = true ↔ ∃ x ∈ s.link.longOp.windows, x ≠ w) ∧
        ((∀ x ∈ s.link.longOp.windows, x = w) → (s.drainComplete w).link.longOp.opcode = 0)) ∧
      { (s.drainComplete w).link with busy := s.link.busy, longOp := s.link.longOp } = s.link)

/-- R15, R22, R181, R184: DISABLE and SUSPEND of an ACTIVE window start its drain, and with operations outstanding a long operation;
DISABLE of a SUSPENDED window makes it OFF with its records returned, and RESUME makes it ACTIVE, at once. In every other state the
answer is BADSTATE and nothing changes. That a record returned to the pool keeps every field but OWNER, where R8 gives these fields
no effect, is the model's choice (log 14, DESIGN CHOICE), and so is the opcode that the long-operation record keeps when its set is
empty (log 13, DEDUCED from R181). -/
def Obligations.LifecycleCommands : Prop :=
  ∀ (s : State) (r : LinkReq) (w : WinId), s.LinkReady → r.window.toNat = w.val →
    ((s.win w).life = .active →
      (∃ t, exec (.disable r) s = .next t ∧ s.Answered t 0x21 .done [] ∧
        { s.apartFromAnswer t with
          link := { (s.apartFromAnswer t).link with busy := s.link.busy, longOp := s.link.longOp } } =
          { s.drainEntry w .retiring with
            link := { (s.drainEntry w .retiring).link with busy := s.link.busy, longOp := s.link.longOp } } ∧
        t.link.longOp = ⟨0x21, if (s.win w).outstanding = 0 then [] else [w]⟩ ∧
        (t.link.busy = true ↔ (s.win w).outstanding ≠ 0)) ∧
      (∃ t, exec (.suspend r) s = .next t ∧ s.Answered t 0x22 .done [] ∧
        { s.apartFromAnswer t with
          link := { (s.apartFromAnswer t).link with busy := s.link.busy, longOp := s.link.longOp } } =
          { s.drainEntry w .suspending with
            link := { (s.drainEntry w .suspending).link with busy := s.link.busy, longOp := s.link.longOp } } ∧
        t.link.longOp = ⟨0x22, if (s.win w).outstanding = 0 then [] else [w]⟩ ∧
        (t.link.busy = true ↔ (s.win w).outstanding ≠ 0))) ∧
    ((s.win w).life = .suspended →
      (∃ t, exec (.disable r) s = .next t ∧ s.Answered t 0x21 .done [] ∧
        t.windows = s.windows.set w.val { s.win w with life := .off } ∧
        (∀ i : RecId, t.pool[i] =
          if (∃ b, s.pool[i].owner = some (w, b)) then { s.pool[i] with owner := none } else s.pool[i]) ∧
        { s.apartFromAnswer t with windows := s.windows, pool := s.pool } = s) ∧
      (∃ t, exec (.resume r) s = .next t ∧ s.Answered t 0x23 .done [] ∧
        s.apartFromAnswer t = { s with windows := s.windows.set w.val { s.win w with life := .active } })) ∧
    ((s.win w).life ≠ .active → (s.win w).life ≠ .suspended →
      ∃ t, exec (.disable r) s = .next t ∧ s.Answered t 0x21 .badState [] ∧ s.apartFromAnswer t = s) ∧
    ((s.win w).life ≠ .active →
      ∃ t, exec (.suspend r) s = .next t ∧ s.Answered t 0x22 .badState [] ∧ s.apartFromAnswer t = s) ∧
    ((s.win w).life ≠ .suspended →
      ∃ t, exec (.resume r) s = .next t ∧ s.Answered t 0x23 .badState [] ∧ s.apartFromAnswer t = s)

/-- R19, R21, R24, R81, R82, R84, R181, R184: SESSION CLEAR is answered DONE whatever it finds. Every ACTIVE window enters
RESTARTING: each transaction it holds is REFUSED and counted in its REFUSALS, its deadlines are cancelled, its merge job is aborted
(the head is marked, a waiting one removed); one with nothing outstanding is ACTIVE again in the same event, its banks, order list,
claims and producer record as the end of a drain leaves them. The other windows, their banks, held entries and jobs are not
affected. The long-operation set holds the windows whose drains did not complete; where there is none the record keeps the opcode
(log 13, DEDUCED from R181). That the granule buffer keeps its bytes is log 14. -/
def Obligations.SessionClearRestarts : Prop :=
  ∀ (s : State) (r : LinkReq), s.LinkReady →
    ∃ t, exec (.sessionClear r) s = .next t ∧ s.Answered t 0x24 .done [] ∧
      (∀ p, t.port p =
        { s.port p with
          entries := (s.port p).entries.map fun e =>
            if e.state = .held ∧ (e.holdwin.any fun w => decide ((s.win w).life = .active)) = true then
              { e with state := .answered, code := some .refused, data := [], holdwin := none, holddl := none }
            else e }) ∧
      (∀ w, (s.win w).life ≠ .active → t.win w = s.win w) ∧
      (∀ w, (s.win w).life = .active →
        (t.win w).refusals = (s.win w).refusals + BitVec.ofNat 32 (((List.finRange 4).map fun p => s.heldCount w p).sum) ∧
        ((s.win w).outstanding ≠ 0 →
          (t.win w).prod = { (s.win w).prod with opendl := none } ∧
          (∀ p, t.claim w p = { s.claim w p with claimdl := none }) ∧
          { t.win w with refusals := (s.win w).refusals, prod := (s.win w).prod, claims := (s.win w).claims } =
            { s.win w with life := .restarting }) ∧
        ((s.win w).outstanding = 0 →
          { t.win w with refusals := (s.win w).refusals } =
            { s.win w with
              order := []
              claims := Vector.replicate 4 Claim.cleared
              prod := { (s.win w).prod with bank := none, opendl := none, lastdrop := false, lastrefused := false } })) ∧
      (∀ (i : RecId) (w : WinId) (b : BankId), s.pool[i].owner = some (w, b) → (s.win w).life = .active →
        (s.win w).outstanding = 0 → t.pool[i] = BankRec.initial (some (w, b)) s.pool[i].pbase) ∧
      (∀ i : RecId, (∀ (w : WinId) (b : BankId), s.pool[i].owner = some (w, b) →
          (s.win w).life ≠ .active ∨ (s.win w).outstanding ≠ 0) → t.pool[i] = s.pool[i]) ∧
      (∀ j rest, s.engine.jobs = j :: rest →
        t.engine.jobs =
          (if (s.win j.window).life = .active then { j with aborted := true } else j)
            :: rest.filter fun k => decide ((s.win k.window).life ≠ .active)) ∧
      (s.engine.jobs = [] → t.engine.jobs = []) ∧ t.engine.buffer = s.engine.buffer ∧
      (∀ w, w ∈ t.link.longOp.windows ↔ (s.win w).life = .active ∧ (s.win w).outstanding ≠ 0) ∧
      t.link.longOp.opcode = 0x24 ∧ (t.link.busy = true ↔ t.link.longOp.windows ≠ []) ∧
      { s.apartFromAnswer t with
        ports := s.ports, windows := s.windows, pool := s.pool, engine := s.engine
        link := { (s.apartFromAnswer t).link with busy := s.link.busy, longOp := s.link.longOp } } = s

/-- R182, R185 to R188: STATUS, TIME READ and the page reads of windows, banks, claims, ports and counters are answered DONE with the
data their rules give, BUSY or not, and change nothing but the answer; what has no page is answered BADFIELD, a bank of an OFF window
BADSTATE. A COVER page shows each of its 32 granules in its own bit. Byte 2 of STATUS is 0x00 while BUSY is off, whatever opcode the
long-operation record keeps (log 13, DEDUCED). The codes of the lifecycle and bank states are those of the tables. -/
def Obligations.StateReads : Prop :=
  (∀ (s : State) (r : LinkReq) (w : WinId) (p : PortId), s.receives = true →
      (∃ t, exec (.status r) s = .next t ∧
        s.Answered t 0x01 .done
          [if s.link.busy then 1 else 0,
           (match s.link.longOp.windows with
             | [] => 0xFF
             | x :: _ => BitVec.ofNat 8 x.val),
           if s.link.busy then s.link.longOp.opcode else 0,
           BitVec.ofNat 8 s.faults.queue.length, s.faults.overrun, BitVec.ofNat 8 s.link.longOp.windows.length] ∧
        s.apartFromAnswer t = s) ∧
      (∃ t, exec (.timeRead r) s = .next t ∧ s.Answered t 0x50 .done (le32 s.time.stamp) ∧ s.apartFromAnswer t = s) ∧
      (r.window.toNat = w.val →
        (r.field = 0 →
          ∃ t, exec (.windowRead r) s = .next t ∧
            s.Answered t 0x30 .done
              ([(s.win w).life.code, optByte ((s.win w).prod.bank.map Fin.val), BitVec.ofNat 8 (s.producerCode w)]
                ++ le16 (s.win w).prod.nextseq ++ [flagByte [(s.win w).prod.lastdrop, (s.win w).prod.lastrefused]]) ∧
            s.apartFromAnswer t = s) ∧
        (r.field = 1 →
          ∃ t, exec (.windowRead r) s = .next t ∧
            s.Answered t 0x30 .done
              (le32 ((s.win w).prod.opendl.getD 0)
                ++ [if (s.win w).prod.opendl.isSome then 1 else 0, BitVec.ofNat 8 (s.win w).outstanding]) ∧
            s.apartFromAnswer t = s) ∧
        (r.field = 2 →
          ∃ t, exec (.windowRead r) s = .next t ∧
            s.Answered t 0x30 .done
              (le32 (s.win w).prod.laststamp
                ++ [BitVec.ofNat 8 (s.win w).order.length, optByte ((s.win w).order.head?.map Fin.val)]) ∧
            s.apartFromAnswer t = s) ∧
        (r.field = 3 →
          ∃ t, exec (.windowRead r) s = .next t ∧
            s.Answered t 0x30 .done
              ((List.range 6).map fun i => optByte (((s.win w).order[r.index.toNat + i]?).map Fin.val)) ∧
            s.apartFromAnswer t = s) ∧
        (3 < r.field.toNat →
          ∃ t, exec (.windowRead r) s = .next t ∧ s.Answered t 0x30 .badField [] ∧ s.apartFromAnswer t = s) ∧
        (r.index.toNat = p.val → r.field = 0 →
          ∃ t, exec (.claimRead r) s = .next t ∧
            s.Answered t 0x32 .done
              [optByte ((s.claim w p).bank.map Fin.val), BitVec.ofNat 8 (s.claim w p).reads,
               flagByte [(s.claim w p).closing, (s.claim w p).deferred, (s.claim w p).expired, (s.claim w p).claimexpired,
                 (s.claim w p).claimdl.isSome],
               (s.claim w p).missed, (s.claim w p).claimmissed] ∧
            s.apartFromAnswer t = s) ∧
        (r.index.toNat = p.val → r.field = 1 →
          ∃ t, exec (.claimRead r) s = .next t ∧
            s.Answered t 0x32 .done (le32 ((s.claim w p).claimdl.getD 0) ++ le16 (s.claim w p).lastseq) ∧
            s.apartFromAnswer t = s) ∧
        (3 < r.index.toNat ∨ 1 < r.field.toNat →
          ∃ t, exec (.claimRead r) s = .next t ∧ s.Answered t 0x32 .badField [] ∧ s.apartFromAnswer t = s) ∧
        (∀ n : Count32,
          (r.field = 0 ∧ n = (s.win w).commits) ∨ (r.field = 1 ∧ n = (s.win w).drops) ∨
            (r.field = 2 ∧ n = (s.win w).refusals) ∨ (r.field = 3 ∧ n = (s.win w).expiries) →
          ∃ t, exec (.counterRead r) s = .next t ∧ s.Answered t 0x34 .done (le32 n) ∧ s.apartFromAnswer t = s) ∧
        (3 < r.field.toNat →
          ∃ t, exec (.counterRead r) s = .next t ∧ s.Answered t 0x34 .badField [] ∧ s.apartFromAnswer t = s)) ∧
      (r.index.toNat = p.val →
        ∃ t, exec (.portRead r) s = .next t ∧
          s.Answered t 0x33 .done
            ([BitVec.ofNat 8 (s.port p).entries.length, (if (s.heldEntry p).isSome then 1 else 0),
              (match s.heldEntry p with
                | some e => (match e.holdwin with
                  | some x => BitVec.ofNat 8 x.val
                  | none => 0xFF)
                | none => 0xFF)]
              ++ le16 ((s.ticksLeft p).setWidth 16)) ∧
          s.apartFromAnswer t = s) ∧
      (3 < r.index.toNat →
        ∃ t, exec (.portRead r) s = .next t ∧ s.Answered t 0x33 .badField [] ∧ s.apartFromAnswer t = s))
  ∧ (∀ (s : State) (r : LinkReq) (w : WinId), s.receives = true → r.window.toNat = w.val →
    (∀ b : BankId, r.index.toNat = b.val → b.val < (s.cfg w).bankCount → (s.cfg w).hasBankPage r.field = true →
      (s.win w).life ≠ .off →
      ∃ t, exec (.bankRead r) s = .next t ∧ s.Answered t 0x31 .done (s.bankPage w b r.field) ∧ s.apartFromAnswer t = s) ∧
    ((s.win w).life = .off → r.index.toNat < (s.cfg w).bankCount → (s.cfg w).hasBankPage r.field = true →
      ∃ t, exec (.bankRead r) s = .next t ∧ s.Answered t 0x31 .badState [] ∧ s.apartFromAnswer t = s) ∧
    ((s.cfg w).bankCount ≤ r.index.toNat ∨ (s.cfg w).hasBankPage r.field = false →
      ∃ t, exec (.bankRead r) s = .next t ∧ s.Answered t 0x31 .badField [] ∧ s.apartFromAnswer t = s))
  ∧ (∀ (s : State) (w : WinId) (b : BankId),
      s.bankPage w b 0 =
        [(s.bank w b).state.code, (s.bank w b).session, flagByte [(s.bank w b).poison, (s.bank w b).patterned],
         BitVec.ofNat 8 (s.bank w b).winflight, (s.bank w b).holders.setWidth 8, (s.bank w b).deliveries] ∧
      s.bankPage w b 1 = le16 (s.bank w b).seq ++ le16Nat (s.bank w b).length ++ le16Nat (s.bank w b).written ∧
      s.bankPage w b 2 = le32 (s.bank w b).stamp ++ le16Nat (s.bank w b).merged ∧
      s.bankPage w b 3 =
        le32 ((s.bank w b).pbase.extractLsb' 0 32)
          ++ [(s.bank w b).pbase.extractLsb' 32 8, optByte ((s.recordOf w b).map Fin.val)])
  ∧ (∀ (s : State) (w : WinId) (b : BankId) (k : Nat), k < 32 →
      ∃ bits : BitVec 32,
        s.bankPage w b (BitVec.ofNat 8 (0x20 + k)) = le32 bits ++ le16Nat (s.bank w b).cover.length ∧
        ∀ j, j < 32 → (bits.getLsbD j = true ↔ 32 * k + j ∈ (s.bank w b).cover))
  ∧ (∀ (c : WindowRec) (k : Nat), k < 32 →
      (c.hasBankPage (BitVec.ofNat 8 (0x20 + k)) = true ↔ 32 * k < c.granuleCount))
  ∧ ([Life.off, .active, .suspending, .suspended, .retiring, .restarting].map Life.code = [0#8, 1#8, 2#8, 3#8, 4#8, 5#8] ∧
    [BankState.free, .filling, .committing, .merging, .expiring, .current, .held, .queued].map BankState.code
      = [0#8, 1#8, 2#8, 3#8, 4#8, 5#8, 6#8, 7#8])

/-- R156, R171, R172, R188: COUNTER CLEAR sets a window's four counters to 0; PRESCALE stores a P of 1 to 250 that governs from the
next increment; MASK WRITE stores the global mask. A value outside the range is answered BADFIELD and changes nothing. -/
def Obligations.CountersTimeMasks : Prop :=
  ∀ (s : State) (r : LinkReq), s.LinkReady →
    (∀ w : WinId, r.window.toNat = w.val →
      ∃ t, exec (.counterClear r) s = .next t ∧ s.Answered t 0x35 .done [] ∧
        s.apartFromAnswer t =
          { s with
            windows := s.windows.set w.val { s.win w with commits := 0, drops := 0, refusals := 0, expiries := 0 } }) ∧
    (1 ≤ r.value.toNat → r.value.toNat ≤ 250 →
      ∃ t, exec (.prescale r) s = .next t ∧ s.Answered t 0x51 .done [BitVec.ofNat 8 r.value.toNat] ∧
        s.apartFromAnswer t = { s with time := { s.time with p := r.value.toNat } }) ∧
    (r.value.toNat = 0 ∨ 250 < r.value.toNat →
      ∃ t, exec (.prescale r) s = .next t ∧ s.Answered t 0x51 .badField [] ∧ s.apartFromAnswer t = s) ∧
    (r.value.toNat ≤ 7 →
      ∃ t, exec (.maskWrite r) s = .next t ∧ s.Answered t 0x52 .done [BitVec.ofNat 8 r.value.toNat] ∧
        s.apartFromAnswer t = { s with faults := { s.faults with mask := BitVec.ofNat 3 r.value.toNat } }) ∧
    (7 < r.value.toNat →
      ∃ t, exec (.maskWrite r) s = .next t ∧ s.Answered t 0x52 .badField [] ∧ s.apartFromAnswer t = s)

/-- R170, R189: FAULT PEEK and FAULT POP return a page of the oldest record with the count before any removal, POP removes it; on an
empty queue both are answered EMPTY; a FIELD other than 0 or 1 is answered BADFIELD. FAULT CLEAR empties the queue and OVERRUN. -/
def Obligations.FaultCommands : Prop :=
  ∀ (s : State) (r : LinkReq), s.LinkReady →
    (∀ x rest, s.faults.queue = x :: rest →
      (r.field = 0 →
        (∃ t, exec (.faultPeek r) s = .next t ∧
          s.Answered t 0x40 .done
            ([BitVec.ofNat 8 x.kind.code, optByte (x.window.map Fin.val), optByte (x.port.map Fin.val)]
              ++ locationBytes x.location ++ [BitVec.ofNat 8 (rest.length + 1)]) ∧
          s.apartFromAnswer t = s) ∧
        (∃ t, exec (.faultPop r) s = .next t ∧
          s.Answered t 0x41 .done
            ([BitVec.ofNat 8 x.kind.code, optByte (x.window.map Fin.val), optByte (x.port.map Fin.val)]
              ++ locationBytes x.location ++ [BitVec.ofNat 8 (rest.length + 1)]) ∧
          s.apartFromAnswer t = { s with faults := { s.faults with queue := rest } })) ∧
      (r.field = 1 →
        (∃ t, exec (.faultPeek r) s = .next t ∧
          s.Answered t 0x40 .done (le32 x.stamp ++ [BitVec.ofNat 8 x.kind.code, BitVec.ofNat 8 (rest.length + 1)]) ∧
          s.apartFromAnswer t = s) ∧
        (∃ t, exec (.faultPop r) s = .next t ∧
          s.Answered t 0x41 .done (le32 x.stamp ++ [BitVec.ofNat 8 x.kind.code, BitVec.ofNat 8 (rest.length + 1)]) ∧
          s.apartFromAnswer t = { s with faults := { s.faults with queue := rest } }))) ∧
    (s.faults.queue = [] → r.field.toNat ≤ 1 →
      (∃ t, exec (.faultPeek r) s = .next t ∧ s.Answered t 0x40 .empty [] ∧ s.apartFromAnswer t = s) ∧
      (∃ t, exec (.faultPop r) s = .next t ∧ s.Answered t 0x41 .empty [] ∧ s.apartFromAnswer t = s)) ∧
    (1 < r.field.toNat →
      (∃ t, exec (.faultPeek r) s = .next t ∧ s.Answered t 0x40 .badField [] ∧ s.apartFromAnswer t = s) ∧
      (∃ t, exec (.faultPop r) s = .next t ∧ s.Answered t 0x41 .badField [] ∧ s.apartFromAnswer t = s)) ∧
    (∃ t, exec (.faultClear r) s = .next t ∧ s.Answered t 0x42 .done [] ∧
      s.apartFromAnswer t = { s with faults := { s.faults with queue := [], overrun := 0 } })

/-! ### Headline results -/

/-- R177: a request word decodes to the command it was written for, every operand at every value (the opcode of UNDEFINED_OPCODE
outside 11.3). That `decodeTableWord` reads the same word is the model's choice (log 15): the table's rows give no bits. -/
def Obligations.RequestRoundTrip : Prop :=
  ∀ (i : Instr) (x : BitVec 64), i.wellFormed = true → encodeRequest i = some x →
    decodeRequest x = i ∧ decodeTableWord 64 x.toNat = some i

/-- R176 to R180: a CSn fall, 64 rising SCK edges that shift in the bits of a request word, most significant bit of each byte first,
and a CSn rise do what the command of that word does in one event: so the model's choice of one event for a whole frame (log 9) loses
nothing of it. -/
def Obligations.SerialFrameRunsCommand : Prop :=
  ∀ (s : State) (x : BitVec 64), s.receives = true → exec (decodeRequest x) s = .next (s.serialFrame (bitsOfWord x))

/-- R1, R2: no step changes the window record of a window that is not OFF. -/
def Obligations.ConfigFixedWhileNotOff : Prop :=
  ∀ (s t : State) (w : WinId), s.rstn = true → (s.win w).life ≠ .off → step s = .next t → t.cfg w = s.cfg w

/-- R126, R128, R146, R166: every step keeps the limits of the accepted lists, of the outstanding-issue list and of the fault queue,
and the order of the accepted lists: settled entries, then at most one HELD entry, then WAITING entries. This order is R126's last
sentence in the reading of log 18 (DEDUCED from R127 and R128): entries may still WAIT in a row. -/
def Obligations.ListsKept : Prop :=
  (∀ s t : State, s.WithinLimits → step s = .next t → t.WithinLimits) ∧
  (∀ s t : State, s.PortsOrdered → step s = .next t → t.PortsOrdered)

/-- R11, R34, R156: every step keeps the time base in range, NEXTSEQ from 1 to 65535, and COVER in increasing order. -/
def Obligations.RangesKept : Prop :=
  (∀ s t : State, s.time.InRange → step s = .next t → t.time.InRange) ∧
  (∀ s t : State, s.SeqsValid → step s = .next t → t.SeqsValid) ∧
  (∀ s t : State, s.CoversOrdered → step s = .next t → t.CoversOrdered)

/-- R181: every step keeps the long-operation set equal to the set of draining windows, and BUSY on exactly while it is not empty. -/
def Obligations.BusyFollowsDrains : Prop :=
  ∀ s t : State, s.BusyAgrees → step s = .next t → t.BusyAgrees

/-- R8, R10, R16, R17, R25, R26, R42, R50, R69, R87, R88, R100: every step keeps the pool in agreement with the windows, and the
record of a window that is not OFF as ENABLE admits it, the ranges of these windows pairwise disjoint; in an ACTIVE window one
producer bank named by the producer record, at most one CURRENT bank, a holder for every HELD bank, an armed open deadline only
while FILLING, bank states of the window's mode alone, each QUEUED bank exactly once in the order list and nothing else there; a
FREE bank in SNAPSHOT when there is no producer bank, and an empty order list there; in QUEUE the QUEUED, FREE and producer banks
adding up to BANKS; claims of consumers alone, in SNAPSHOT on a CURRENT or HELD bank that lists exactly the ports claiming it in
HOLDERS, in QUEUE on the head of the order list; and at most one running or waiting job a window, of an ACTIVE window's MERGING
bank. -/
def Obligations.ExchangeSoundKept : Prop :=
  ∀ s t : State, s.ExchangeSound → step s = .next t → t.ExchangeSound

/-- The state right after reset is safe, and its ranges are kept. -/
def Obligations.SafeAtReset : Prop :=
  State.reset.Safe ∧ State.reset.time.InRange ∧ State.reset.SeqsValid ∧ State.reset.CoversOrdered
end

