-- ==== Sys2Proof/Laws/State.lean ====
section
/-! SUPPORT. The small lemmas of the state: one per field and accessor that an operation leaves alone, each true by unfolding the
operation once, so that no later proof unfolds a record update. -/

namespace Sys2Proof.Machine

open Sys2Proof

set_option Elab.async false

/-! #### modWin -/

@[simp] theorem State.modWin_rstn (s : State) (w : WinId) (f : WinCtl → WinCtl) : (s.modWin w f).rstn = s.rstn := rfl
@[simp] theorem State.modWin_ports (s : State) (w : WinId) (f : WinCtl → WinCtl) : (s.modWin w f).ports = s.ports := rfl
@[simp] theorem State.modWin_pool (s : State) (w : WinId) (f : WinCtl → WinCtl) : (s.modWin w f).pool = s.pool := rfl
@[simp] theorem State.modWin_engine (s : State) (w : WinId) (f : WinCtl → WinCtl) : (s.modWin w f).engine = s.engine := rfl
@[simp] theorem State.modWin_mport (s : State) (w : WinId) (f : WinCtl → WinCtl) : (s.modWin w f).mport = s.mport := rfl
@[simp] theorem State.modWin_time (s : State) (w : WinId) (f : WinCtl → WinCtl) : (s.modWin w f).time = s.time := rfl
@[simp] theorem State.modWin_faults (s : State) (w : WinId) (f : WinCtl → WinCtl) : (s.modWin w f).faults = s.faults := rfl
@[simp] theorem State.modWin_link (s : State) (w : WinId) (f : WinCtl → WinCtl) : (s.modWin w f).link = s.link := rfl
@[simp] theorem State.modWin_out (s : State) (w : WinId) (f : WinCtl → WinCtl) : (s.modWin w f).out = s.out := rfl
@[simp] theorem State.modWin_pending (s : State) (w : WinId) (f : WinCtl → WinCtl) : (s.modWin w f).pending = s.pending := rfl
@[simp] theorem State.modWin_cfg (s : State) (w : WinId) (f : WinCtl → WinCtl) (x : WinId) :
    (s.modWin w f).cfg x = s.cfg x := rfl
@[simp] theorem State.modWin_port (s : State) (w : WinId) (f : WinCtl → WinCtl) (q : PortId) :
    (s.modWin w f).port q = s.port q := rfl
@[simp] theorem State.modWin_recordOf (s : State) (w : WinId) (f : WinCtl → WinCtl) (x : WinId) (c : BankId) :
    (s.modWin w f).recordOf x c = s.recordOf x c := rfl
@[simp] theorem State.modWin_bank (s : State) (w : WinId) (f : WinCtl → WinCtl) (x : WinId) (c : BankId) :
    (s.modWin w f).bank x c = s.bank x c := rfl

/-! #### modClaim -/

@[simp] theorem State.modClaim_rstn (s : State) (w : WinId) (p : PortId) (f : Claim → Claim) :
    (s.modClaim w p f).rstn = s.rstn := rfl
@[simp] theorem State.modClaim_ports (s : State) (w : WinId) (p : PortId) (f : Claim → Claim) :
    (s.modClaim w p f).ports = s.ports := rfl
@[simp] theorem State.modClaim_pool (s : State) (w : WinId) (p : PortId) (f : Claim → Claim) :
    (s.modClaim w p f).pool = s.pool := rfl
@[simp] theorem State.modClaim_engine (s : State) (w : WinId) (p : PortId) (f : Claim → Claim) :
    (s.modClaim w p f).engine = s.engine := rfl
@[simp] theorem State.modClaim_mport (s : State) (w : WinId) (p : PortId) (f : Claim → Claim) :
    (s.modClaim w p f).mport = s.mport := rfl
@[simp] theorem State.modClaim_time (s : State) (w : WinId) (p : PortId) (f : Claim → Claim) :
    (s.modClaim w p f).time = s.time := rfl
@[simp] theorem State.modClaim_faults (s : State) (w : WinId) (p : PortId) (f : Claim → Claim) :
    (s.modClaim w p f).faults = s.faults := rfl
@[simp] theorem State.modClaim_link (s : State) (w : WinId) (p : PortId) (f : Claim → Claim) :
    (s.modClaim w p f).link = s.link := rfl
@[simp] theorem State.modClaim_out (s : State) (w : WinId) (p : PortId) (f : Claim → Claim) :
    (s.modClaim w p f).out = s.out := rfl
@[simp] theorem State.modClaim_pending (s : State) (w : WinId) (p : PortId) (f : Claim → Claim) :
    (s.modClaim w p f).pending = s.pending := rfl
@[simp] theorem State.modClaim_cfg (s : State) (w : WinId) (p : PortId) (f : Claim → Claim) (x : WinId) :
    (s.modClaim w p f).cfg x = s.cfg x := rfl
@[simp] theorem State.modClaim_port (s : State) (w : WinId) (p : PortId) (f : Claim → Claim) (q : PortId) :
    (s.modClaim w p f).port q = s.port q := rfl
@[simp] theorem State.modClaim_recordOf (s : State) (w : WinId) (p : PortId) (f : Claim → Claim) (x : WinId) (c : BankId) :
    (s.modClaim w p f).recordOf x c = s.recordOf x c := rfl
@[simp] theorem State.modClaim_bank (s : State) (w : WinId) (p : PortId) (f : Claim → Claim) (x : WinId) (c : BankId) :
    (s.modClaim w p f).bank x c = s.bank x c := rfl

/-! #### modProd -/

@[simp] theorem State.modProd_rstn (s : State) (w : WinId) (f : ProducerRec → ProducerRec) :
    (s.modProd w f).rstn = s.rstn := rfl
@[simp] theorem State.modProd_ports (s : State) (w : WinId) (f : ProducerRec → ProducerRec) :
    (s.modProd w f).ports = s.ports := rfl
@[simp] theorem State.modProd_pool (s : State) (w : WinId) (f : ProducerRec → ProducerRec) :
    (s.modProd w f).pool = s.pool := rfl
@[simp] theorem State.modProd_engine (s : State) (w : WinId) (f : ProducerRec → ProducerRec) :
    (s.modProd w f).engine = s.engine := rfl
@[simp] theorem State.modProd_mport (s : State) (w : WinId) (f : ProducerRec → ProducerRec) :
    (s.modProd w f).mport = s.mport := rfl
@[simp] theorem State.modProd_time (s : State) (w : WinId) (f : ProducerRec → ProducerRec) :
    (s.modProd w f).time = s.time := rfl
@[simp] theorem State.modProd_faults (s : State) (w : WinId) (f : ProducerRec → ProducerRec) :
    (s.modProd w f).faults = s.faults := rfl
@[simp] theorem State.modProd_link (s : State) (w : WinId) (f : ProducerRec → ProducerRec) :
    (s.modProd w f).link = s.link := rfl
@[simp] theorem State.modProd_out (s : State) (w : WinId) (f : ProducerRec → ProducerRec) : (s.modProd w f).out = s.out := rfl
@[simp] theorem State.modProd_pending (s : State) (w : WinId) (f : ProducerRec → ProducerRec) :
    (s.modProd w f).pending = s.pending := rfl
@[simp] theorem State.modProd_cfg (s : State) (w : WinId) (f : ProducerRec → ProducerRec) (x : WinId) :
    (s.modProd w f).cfg x = s.cfg x := rfl
@[simp] theorem State.modProd_port (s : State) (w : WinId) (f : ProducerRec → ProducerRec) (q : PortId) :
    (s.modProd w f).port q = s.port q := rfl
@[simp] theorem State.modProd_recordOf (s : State) (w : WinId) (f : ProducerRec → ProducerRec) (x : WinId) (c : BankId) :
    (s.modProd w f).recordOf x c = s.recordOf x c := rfl
@[simp] theorem State.modProd_bank (s : State) (w : WinId) (f : ProducerRec → ProducerRec) (x : WinId) (c : BankId) :
    (s.modProd w f).bank x c = s.bank x c := rfl

/-! #### countRefusal -/

@[simp] theorem State.countRefusal_rstn (s : State) (w : WinId) : (s.countRefusal w).rstn = s.rstn := rfl
@[simp] theorem State.countRefusal_ports (s : State) (w : WinId) : (s.countRefusal w).ports = s.ports := rfl
@[simp] theorem State.countRefusal_pool (s : State) (w : WinId) : (s.countRefusal w).pool = s.pool := rfl
@[simp] theorem State.countRefusal_engine (s : State) (w : WinId) : (s.countRefusal w).engine = s.engine := rfl
@[simp] theorem State.countRefusal_mport (s : State) (w : WinId) : (s.countRefusal w).mport = s.mport := rfl
@[simp] theorem State.countRefusal_time (s : State) (w : WinId) : (s.countRefusal w).time = s.time := rfl
@[simp] theorem State.countRefusal_faults (s : State) (w : WinId) : (s.countRefusal w).faults = s.faults := rfl
@[simp] theorem State.countRefusal_link (s : State) (w : WinId) : (s.countRefusal w).link = s.link := rfl
@[simp] theorem State.countRefusal_out (s : State) (w : WinId) : (s.countRefusal w).out = s.out := rfl
@[simp] theorem State.countRefusal_pending (s : State) (w : WinId) : (s.countRefusal w).pending = s.pending := rfl
@[simp] theorem State.countRefusal_cfg (s : State) (w : WinId) (x : WinId) : (s.countRefusal w).cfg x = s.cfg x := rfl
@[simp] theorem State.countRefusal_port (s : State) (w : WinId) (q : PortId) : (s.countRefusal w).port q = s.port q := rfl
@[simp] theorem State.countRefusal_recordOf (s : State) (w : WinId) (x : WinId) (c : BankId) :
    (s.countRefusal w).recordOf x c = s.recordOf x c := rfl
@[simp] theorem State.countRefusal_bank (s : State) (w : WinId) (x : WinId) (c : BankId) :
    (s.countRefusal w).bank x c = s.bank x c := rfl

/-! #### countExpiry -/

@[simp] theorem State.countExpiry_rstn (s : State) (w : WinId) : (s.countExpiry w).rstn = s.rstn := rfl
@[simp] theorem State.countExpiry_ports (s : State) (w : WinId) : (s.countExpiry w).ports = s.ports := rfl
@[simp] theorem State.countExpiry_pool (s : State) (w : WinId) : (s.countExpiry w).pool = s.pool := rfl
@[simp] theorem State.countExpiry_engine (s : State) (w : WinId) : (s.countExpiry w).engine = s.engine := rfl
@[simp] theorem State.countExpiry_mport (s : State) (w : WinId) : (s.countExpiry w).mport = s.mport := rfl
@[simp] theorem State.countExpiry_time (s : State) (w : WinId) : (s.countExpiry w).time = s.time := rfl
@[simp] theorem State.countExpiry_faults (s : State) (w : WinId) : (s.countExpiry w).faults = s.faults := rfl
@[simp] theorem State.countExpiry_link (s : State) (w : WinId) : (s.countExpiry w).link = s.link := rfl
@[simp] theorem State.countExpiry_out (s : State) (w : WinId) : (s.countExpiry w).out = s.out := rfl
@[simp] theorem State.countExpiry_pending (s : State) (w : WinId) : (s.countExpiry w).pending = s.pending := rfl
@[simp] theorem State.countExpiry_cfg (s : State) (w : WinId) (x : WinId) : (s.countExpiry w).cfg x = s.cfg x := rfl
@[simp] theorem State.countExpiry_port (s : State) (w : WinId) (q : PortId) : (s.countExpiry w).port q = s.port q := rfl
@[simp] theorem State.countExpiry_recordOf (s : State) (w : WinId) (x : WinId) (c : BankId) :
    (s.countExpiry w).recordOf x c = s.recordOf x c := rfl
@[simp] theorem State.countExpiry_bank (s : State) (w : WinId) (x : WinId) (c : BankId) :
    (s.countExpiry w).bank x c = s.bank x c := rfl

/-! #### countDrop -/

@[simp] theorem State.countDrop_rstn (s : State) (w : WinId) : (s.countDrop w).rstn = s.rstn := rfl
@[simp] theorem State.countDrop_ports (s : State) (w : WinId) : (s.countDrop w).ports = s.ports := rfl
@[simp] theorem State.countDrop_pool (s : State) (w : WinId) : (s.countDrop w).pool = s.pool := rfl
@[simp] theorem State.countDrop_engine (s : State) (w : WinId) : (s.countDrop w).engine = s.engine := rfl
@[simp] theorem State.countDrop_mport (s : State) (w : WinId) : (s.countDrop w).mport = s.mport := rfl
@[simp] theorem State.countDrop_time (s : State) (w : WinId) : (s.countDrop w).time = s.time := rfl
@[simp] theorem State.countDrop_faults (s : State) (w : WinId) : (s.countDrop w).faults = s.faults := rfl
@[simp] theorem State.countDrop_link (s : State) (w : WinId) : (s.countDrop w).link = s.link := rfl
@[simp] theorem State.countDrop_out (s : State) (w : WinId) : (s.countDrop w).out = s.out := rfl
@[simp] theorem State.countDrop_pending (s : State) (w : WinId) : (s.countDrop w).pending = s.pending := rfl
@[simp] theorem State.countDrop_cfg (s : State) (w : WinId) (x : WinId) : (s.countDrop w).cfg x = s.cfg x := rfl
@[simp] theorem State.countDrop_port (s : State) (w : WinId) (q : PortId) : (s.countDrop w).port q = s.port q := rfl
@[simp] theorem State.countDrop_recordOf (s : State) (w : WinId) (x : WinId) (c : BankId) :
    (s.countDrop w).recordOf x c = s.recordOf x c := rfl
@[simp] theorem State.countDrop_bank (s : State) (w : WinId) (x : WinId) (c : BankId) :
    (s.countDrop w).bank x c = s.bank x c := rfl

/-! #### countCommit -/

@[simp] theorem State.countCommit_rstn (s : State) (w : WinId) : (s.countCommit w).rstn = s.rstn := rfl
@[simp] theorem State.countCommit_ports (s : State) (w : WinId) : (s.countCommit w).ports = s.ports := rfl
@[simp] theorem State.countCommit_pool (s : State) (w : WinId) : (s.countCommit w).pool = s.pool := rfl
@[simp] theorem State.countCommit_engine (s : State) (w : WinId) : (s.countCommit w).engine = s.engine := rfl
@[simp] theorem State.countCommit_mport (s : State) (w : WinId) : (s.countCommit w).mport = s.mport := rfl
@[simp] theorem State.countCommit_time (s : State) (w : WinId) : (s.countCommit w).time = s.time := rfl
@[simp] theorem State.countCommit_faults (s : State) (w : WinId) : (s.countCommit w).faults = s.faults := rfl
@[simp] theorem State.countCommit_link (s : State) (w : WinId) : (s.countCommit w).link = s.link := rfl
@[simp] theorem State.countCommit_out (s : State) (w : WinId) : (s.countCommit w).out = s.out := rfl
@[simp] theorem State.countCommit_pending (s : State) (w : WinId) : (s.countCommit w).pending = s.pending := rfl
@[simp] theorem State.countCommit_cfg (s : State) (w : WinId) (x : WinId) : (s.countCommit w).cfg x = s.cfg x := rfl
@[simp] theorem State.countCommit_port (s : State) (w : WinId) (q : PortId) : (s.countCommit w).port q = s.port q := rfl
@[simp] theorem State.countCommit_recordOf (s : State) (w : WinId) (x : WinId) (c : BankId) :
    (s.countCommit w).recordOf x c = s.recordOf x c := rfl
@[simp] theorem State.countCommit_bank (s : State) (w : WinId) (x : WinId) (c : BankId) :
    (s.countCommit w).bank x c = s.bank x c := rfl

/-! #### opStarted -/

@[simp] theorem State.opStarted_rstn (s : State) (w : WinId) : (s.opStarted w).rstn = s.rstn := rfl
@[simp] theorem State.opStarted_ports (s : State) (w : WinId) : (s.opStarted w).ports = s.ports := rfl
@[simp] theorem State.opStarted_pool (s : State) (w : WinId) : (s.opStarted w).pool = s.pool := rfl
@[simp] theorem State.opStarted_engine (s : State) (w : WinId) : (s.opStarted w).engine = s.engine := rfl
@[simp] theorem State.opStarted_mport (s : State) (w : WinId) : (s.opStarted w).mport = s.mport := rfl
@[simp] theorem State.opStarted_time (s : State) (w : WinId) : (s.opStarted w).time = s.time := rfl
@[simp] theorem State.opStarted_faults (s : State) (w : WinId) : (s.opStarted w).faults = s.faults := rfl
@[simp] theorem State.opStarted_link (s : State) (w : WinId) : (s.opStarted w).link = s.link := rfl
@[simp] theorem State.opStarted_out (s : State) (w : WinId) : (s.opStarted w).out = s.out := rfl
@[simp] theorem State.opStarted_pending (s : State) (w : WinId) : (s.opStarted w).pending = s.pending := rfl
@[simp] theorem State.opStarted_cfg (s : State) (w : WinId) (x : WinId) : (s.opStarted w).cfg x = s.cfg x := rfl
@[simp] theorem State.opStarted_port (s : State) (w : WinId) (q : PortId) : (s.opStarted w).port q = s.port q := rfl
@[simp] theorem State.opStarted_recordOf (s : State) (w : WinId) (x : WinId) (c : BankId) :
    (s.opStarted w).recordOf x c = s.recordOf x c := rfl
@[simp] theorem State.opStarted_bank (s : State) (w : WinId) (x : WinId) (c : BankId) :
    (s.opStarted w).bank x c = s.bank x c := rfl

/-! #### opEnded -/

@[simp] theorem State.opEnded_rstn (s : State) (w : WinId) : (s.opEnded w).rstn = s.rstn := rfl
@[simp] theorem State.opEnded_ports (s : State) (w : WinId) : (s.opEnded w).ports = s.ports := rfl
@[simp] theorem State.opEnded_pool (s : State) (w : WinId) : (s.opEnded w).pool = s.pool := rfl
@[simp] theorem State.opEnded_engine (s : State) (w : WinId) : (s.opEnded w).engine = s.engine := rfl
@[simp] theorem State.opEnded_mport (s : State) (w : WinId) : (s.opEnded w).mport = s.mport := rfl
@[simp] theorem State.opEnded_time (s : State) (w : WinId) : (s.opEnded w).time = s.time := rfl
@[simp] theorem State.opEnded_faults (s : State) (w : WinId) : (s.opEnded w).faults = s.faults := rfl
@[simp] theorem State.opEnded_link (s : State) (w : WinId) : (s.opEnded w).link = s.link := rfl
@[simp] theorem State.opEnded_out (s : State) (w : WinId) : (s.opEnded w).out = s.out := rfl
@[simp] theorem State.opEnded_pending (s : State) (w : WinId) : (s.opEnded w).pending = s.pending := rfl
@[simp] theorem State.opEnded_cfg (s : State) (w : WinId) (x : WinId) : (s.opEnded w).cfg x = s.cfg x := rfl
@[simp] theorem State.opEnded_port (s : State) (w : WinId) (q : PortId) : (s.opEnded w).port q = s.port q := rfl
@[simp] theorem State.opEnded_recordOf (s : State) (w : WinId) (x : WinId) (c : BankId) :
    (s.opEnded w).recordOf x c = s.recordOf x c := rfl
@[simp] theorem State.opEnded_bank (s : State) (w : WinId) (x : WinId) (c : BankId) : (s.opEnded w).bank x c = s.bank x c := rfl

/-! #### modBank -/

@[simp] theorem State.modBank_rstn (s : State) (w : WinId) (b : BankId) (f : BankRec → BankRec) :
    (s.modBank w b f).rstn = s.rstn := rfl
@[simp] theorem State.modBank_ports (s : State) (w : WinId) (b : BankId) (f : BankRec → BankRec) :
    (s.modBank w b f).ports = s.ports := rfl
@[simp] theorem State.modBank_windows (s : State) (w : WinId) (b : BankId) (f : BankRec → BankRec) :
    (s.modBank w b f).windows = s.windows := rfl
@[simp] theorem State.modBank_engine (s : State) (w : WinId) (b : BankId) (f : BankRec → BankRec) :
    (s.modBank w b f).engine = s.engine := rfl
@[simp] theorem State.modBank_mport (s : State) (w : WinId) (b : BankId) (f : BankRec → BankRec) :
    (s.modBank w b f).mport = s.mport := rfl
@[simp] theorem State.modBank_time (s : State) (w : WinId) (b : BankId) (f : BankRec → BankRec) :
    (s.modBank w b f).time = s.time := rfl
@[simp] theorem State.modBank_faults (s : State) (w : WinId) (b : BankId) (f : BankRec → BankRec) :
    (s.modBank w b f).faults = s.faults := rfl
@[simp] theorem State.modBank_link (s : State) (w : WinId) (b : BankId) (f : BankRec → BankRec) :
    (s.modBank w b f).link = s.link := rfl
@[simp] theorem State.modBank_out (s : State) (w : WinId) (b : BankId) (f : BankRec → BankRec) :
    (s.modBank w b f).out = s.out := rfl
@[simp] theorem State.modBank_pending (s : State) (w : WinId) (b : BankId) (f : BankRec → BankRec) :
    (s.modBank w b f).pending = s.pending := rfl
@[simp] theorem State.modBank_cfg (s : State) (w : WinId) (b : BankId) (f : BankRec → BankRec) (x : WinId) :
    (s.modBank w b f).cfg x = s.cfg x := rfl
@[simp] theorem State.modBank_win (s : State) (w : WinId) (b : BankId) (f : BankRec → BankRec) (x : WinId) :
    (s.modBank w b f).win x = s.win x := rfl
@[simp] theorem State.modBank_claim (s : State) (w : WinId) (b : BankId) (f : BankRec → BankRec) (x : WinId) (q : PortId) :
    (s.modBank w b f).claim x q = s.claim x q := rfl
@[simp] theorem State.modBank_port (s : State) (w : WinId) (b : BankId) (f : BankRec → BankRec) (q : PortId) :
    (s.modBank w b f).port q = s.port q := rfl

/-! #### setBankState -/

@[simp] theorem State.setBankState_rstn (s : State) (w : WinId) (b : BankId) (y : BankState) :
    (s.setBankState w b y).rstn = s.rstn := rfl
@[simp] theorem State.setBankState_ports (s : State) (w : WinId) (b : BankId) (y : BankState) :
    (s.setBankState w b y).ports = s.ports := rfl
@[simp] theorem State.setBankState_windows (s : State) (w : WinId) (b : BankId) (y : BankState) :
    (s.setBankState w b y).windows = s.windows := rfl
@[simp] theorem State.setBankState_engine (s : State) (w : WinId) (b : BankId) (y : BankState) :
    (s.setBankState w b y).engine = s.engine := rfl
@[simp] theorem State.setBankState_mport (s : State) (w : WinId) (b : BankId) (y : BankState) :
    (s.setBankState w b y).mport = s.mport := rfl
@[simp] theorem State.setBankState_time (s : State) (w : WinId) (b : BankId) (y : BankState) :
    (s.setBankState w b y).time = s.time := rfl
@[simp] theorem State.setBankState_faults (s : State) (w : WinId) (b : BankId) (y : BankState) :
    (s.setBankState w b y).faults = s.faults := rfl
@[simp] theorem State.setBankState_link (s : State) (w : WinId) (b : BankId) (y : BankState) :
    (s.setBankState w b y).link = s.link := rfl
@[simp] theorem State.setBankState_out (s : State) (w : WinId) (b : BankId) (y : BankState) :
    (s.setBankState w b y).out = s.out := rfl
@[simp] theorem State.setBankState_pending (s : State) (w : WinId) (b : BankId) (y : BankState) :
    (s.setBankState w b y).pending = s.pending := rfl
@[simp] theorem State.setBankState_cfg (s : State) (w : WinId) (b : BankId) (y : BankState) (x : WinId) :
    (s.setBankState w b y).cfg x = s.cfg x := rfl
@[simp] theorem State.setBankState_win (s : State) (w : WinId) (b : BankId) (y : BankState) (x : WinId) :
    (s.setBankState w b y).win x = s.win x := rfl
@[simp] theorem State.setBankState_claim (s : State) (w : WinId) (b : BankId) (y : BankState) (x : WinId) (q : PortId) :
    (s.setBankState w b y).claim x q = s.claim x q := rfl
@[simp] theorem State.setBankState_port (s : State) (w : WinId) (b : BankId) (y : BankState) (q : PortId) :
    (s.setBankState w b y).port q = s.port q := rfl

/-! #### takeRecord -/

@[simp] theorem State.takeRecord_rstn (s : State) (w : WinId) (b : BankId) : (s.takeRecord w b).rstn = s.rstn := rfl
@[simp] theorem State.takeRecord_ports (s : State) (w : WinId) (b : BankId) : (s.takeRecord w b).ports = s.ports := rfl
@[simp] theorem State.takeRecord_windows (s : State) (w : WinId) (b : BankId) : (s.takeRecord w b).windows = s.windows := rfl
@[simp] theorem State.takeRecord_engine (s : State) (w : WinId) (b : BankId) : (s.takeRecord w b).engine = s.engine := rfl
@[simp] theorem State.takeRecord_mport (s : State) (w : WinId) (b : BankId) : (s.takeRecord w b).mport = s.mport := rfl
@[simp] theorem State.takeRecord_time (s : State) (w : WinId) (b : BankId) : (s.takeRecord w b).time = s.time := rfl
@[simp] theorem State.takeRecord_faults (s : State) (w : WinId) (b : BankId) : (s.takeRecord w b).faults = s.faults := rfl
@[simp] theorem State.takeRecord_link (s : State) (w : WinId) (b : BankId) : (s.takeRecord w b).link = s.link := rfl
@[simp] theorem State.takeRecord_out (s : State) (w : WinId) (b : BankId) : (s.takeRecord w b).out = s.out := rfl
@[simp] theorem State.takeRecord_pending (s : State) (w : WinId) (b : BankId) : (s.takeRecord w b).pending = s.pending := rfl
@[simp] theorem State.takeRecord_cfg (s : State) (w : WinId) (b : BankId) (x : WinId) :
    (s.takeRecord w b).cfg x = s.cfg x := rfl
@[simp] theorem State.takeRecord_win (s : State) (w : WinId) (b : BankId) (x : WinId) :
    (s.takeRecord w b).win x = s.win x := rfl
@[simp] theorem State.takeRecord_claim (s : State) (w : WinId) (b : BankId) (x : WinId) (q : PortId) :
    (s.takeRecord w b).claim x q = s.claim x q := rfl
@[simp] theorem State.takeRecord_port (s : State) (w : WinId) (b : BankId) (q : PortId) :
    (s.takeRecord w b).port q = s.port q := rfl

/-! #### reinitBanks -/

@[simp] theorem State.reinitBanks_rstn (s : State) (w : WinId) : (s.reinitBanks w).rstn = s.rstn := rfl
@[simp] theorem State.reinitBanks_ports (s : State) (w : WinId) : (s.reinitBanks w).ports = s.ports := rfl
@[simp] theorem State.reinitBanks_windows (s : State) (w : WinId) : (s.reinitBanks w).windows = s.windows := rfl
@[simp] theorem State.reinitBanks_engine (s : State) (w : WinId) : (s.reinitBanks w).engine = s.engine := rfl
@[simp] theorem State.reinitBanks_mport (s : State) (w : WinId) : (s.reinitBanks w).mport = s.mport := rfl
@[simp] theorem State.reinitBanks_time (s : State) (w : WinId) : (s.reinitBanks w).time = s.time := rfl
@[simp] theorem State.reinitBanks_faults (s : State) (w : WinId) : (s.reinitBanks w).faults = s.faults := rfl
@[simp] theorem State.reinitBanks_link (s : State) (w : WinId) : (s.reinitBanks w).link = s.link := rfl
@[simp] theorem State.reinitBanks_out (s : State) (w : WinId) : (s.reinitBanks w).out = s.out := rfl
@[simp] theorem State.reinitBanks_pending (s : State) (w : WinId) : (s.reinitBanks w).pending = s.pending := rfl
@[simp] theorem State.reinitBanks_cfg (s : State) (w : WinId) (x : WinId) : (s.reinitBanks w).cfg x = s.cfg x := rfl
@[simp] theorem State.reinitBanks_win (s : State) (w : WinId) (x : WinId) : (s.reinitBanks w).win x = s.win x := rfl
@[simp] theorem State.reinitBanks_claim (s : State) (w : WinId) (x : WinId) (q : PortId) :
    (s.reinitBanks w).claim x q = s.claim x q := rfl
@[simp] theorem State.reinitBanks_port (s : State) (w : WinId) (q : PortId) : (s.reinitBanks w).port q = s.port q := rfl

/-! #### freeBanks -/

@[simp] theorem State.freeBanks_rstn (s : State) (w : WinId) : (s.freeBanks w).rstn = s.rstn := rfl
@[simp] theorem State.freeBanks_ports (s : State) (w : WinId) : (s.freeBanks w).ports = s.ports := rfl
@[simp] theorem State.freeBanks_windows (s : State) (w : WinId) : (s.freeBanks w).windows = s.windows := rfl
@[simp] theorem State.freeBanks_engine (s : State) (w : WinId) : (s.freeBanks w).engine = s.engine := rfl
@[simp] theorem State.freeBanks_mport (s : State) (w : WinId) : (s.freeBanks w).mport = s.mport := rfl
@[simp] theorem State.freeBanks_time (s : State) (w : WinId) : (s.freeBanks w).time = s.time := rfl
@[simp] theorem State.freeBanks_faults (s : State) (w : WinId) : (s.freeBanks w).faults = s.faults := rfl
@[simp] theorem State.freeBanks_link (s : State) (w : WinId) : (s.freeBanks w).link = s.link := rfl
@[simp] theorem State.freeBanks_out (s : State) (w : WinId) : (s.freeBanks w).out = s.out := rfl
@[simp] theorem State.freeBanks_pending (s : State) (w : WinId) : (s.freeBanks w).pending = s.pending := rfl
@[simp] theorem State.freeBanks_cfg (s : State) (w : WinId) (x : WinId) : (s.freeBanks w).cfg x = s.cfg x := rfl
@[simp] theorem State.freeBanks_win (s : State) (w : WinId) (x : WinId) : (s.freeBanks w).win x = s.win x := rfl
@[simp] theorem State.freeBanks_claim (s : State) (w : WinId) (x : WinId) (q : PortId) :
    (s.freeBanks w).claim x q = s.claim x q := rfl
@[simp] theorem State.freeBanks_port (s : State) (w : WinId) (q : PortId) : (s.freeBanks w).port q = s.port q := rfl

/-! #### modEntries -/

@[simp] theorem State.modEntries_rstn (s : State) (p : PortId) (f : List Entry → List Entry) :
    (s.modEntries p f).rstn = s.rstn := rfl
@[simp] theorem State.modEntries_windows (s : State) (p : PortId) (f : List Entry → List Entry) :
    (s.modEntries p f).windows = s.windows := rfl
@[simp] theorem State.modEntries_pool (s : State) (p : PortId) (f : List Entry → List Entry) :
    (s.modEntries p f).pool = s.pool := rfl
@[simp] theorem State.modEntries_engine (s : State) (p : PortId) (f : List Entry → List Entry) :
    (s.modEntries p f).engine = s.engine := rfl
@[simp] theorem State.modEntries_mport (s : State) (p : PortId) (f : List Entry → List Entry) :
    (s.modEntries p f).mport = s.mport := rfl
@[simp] theorem State.modEntries_time (s : State) (p : PortId) (f : List Entry → List Entry) :
    (s.modEntries p f).time = s.time := rfl
@[simp] theorem State.modEntries_faults (s : State) (p : PortId) (f : List Entry → List Entry) :
    (s.modEntries p f).faults = s.faults := rfl
@[simp] theorem State.modEntries_link (s : State) (p : PortId) (f : List Entry → List Entry) :
    (s.modEntries p f).link = s.link := rfl
@[simp] theorem State.modEntries_out (s : State) (p : PortId) (f : List Entry → List Entry) :
    (s.modEntries p f).out = s.out := rfl
@[simp] theorem State.modEntries_pending (s : State) (p : PortId) (f : List Entry → List Entry) :
    (s.modEntries p f).pending = s.pending := rfl
@[simp] theorem State.modEntries_cfg (s : State) (p : PortId) (f : List Entry → List Entry) (x : WinId) :
    (s.modEntries p f).cfg x = s.cfg x := rfl
@[simp] theorem State.modEntries_win (s : State) (p : PortId) (f : List Entry → List Entry) (x : WinId) :
    (s.modEntries p f).win x = s.win x := rfl
@[simp] theorem State.modEntries_claim (s : State) (p : PortId) (f : List Entry → List Entry) (x : WinId) (q : PortId) :
    (s.modEntries p f).claim x q = s.claim x q := rfl
@[simp] theorem State.modEntries_recordOf (s : State) (p : PortId) (f : List Entry → List Entry) (x : WinId) (c : BankId) :
    (s.modEntries p f).recordOf x c = s.recordOf x c := rfl
@[simp] theorem State.modEntries_bank (s : State) (p : PortId) (f : List Entry → List Entry) (x : WinId) (c : BankId) :
    (s.modEntries p f).bank x c = s.bank x c := rfl

/-! #### releaseEvent -/

@[simp] theorem State.releaseEvent_rstn (s : State) (w : WinId) (p : PortId) : (s.releaseEvent w p).rstn = s.rstn := rfl
@[simp] theorem State.releaseEvent_windows (s : State) (w : WinId) (p : PortId) :
    (s.releaseEvent w p).windows = s.windows := rfl
@[simp] theorem State.releaseEvent_pool (s : State) (w : WinId) (p : PortId) : (s.releaseEvent w p).pool = s.pool := rfl
@[simp] theorem State.releaseEvent_engine (s : State) (w : WinId) (p : PortId) : (s.releaseEvent w p).engine = s.engine := rfl
@[simp] theorem State.releaseEvent_mport (s : State) (w : WinId) (p : PortId) : (s.releaseEvent w p).mport = s.mport := rfl
@[simp] theorem State.releaseEvent_time (s : State) (w : WinId) (p : PortId) : (s.releaseEvent w p).time = s.time := rfl
@[simp] theorem State.releaseEvent_faults (s : State) (w : WinId) (p : PortId) : (s.releaseEvent w p).faults = s.faults := rfl
@[simp] theorem State.releaseEvent_link (s : State) (w : WinId) (p : PortId) : (s.releaseEvent w p).link = s.link := rfl
@[simp] theorem State.releaseEvent_out (s : State) (w : WinId) (p : PortId) : (s.releaseEvent w p).out = s.out := rfl
@[simp] theorem State.releaseEvent_pending (s : State) (w : WinId) (p : PortId) :
    (s.releaseEvent w p).pending = s.pending := rfl
@[simp] theorem State.releaseEvent_cfg (s : State) (w : WinId) (p : PortId) (x : WinId) :
    (s.releaseEvent w p).cfg x = s.cfg x := rfl
@[simp] theorem State.releaseEvent_win (s : State) (w : WinId) (p : PortId) (x : WinId) :
    (s.releaseEvent w p).win x = s.win x := rfl
@[simp] theorem State.releaseEvent_claim (s : State) (w : WinId) (p : PortId) (x : WinId) (q : PortId) :
    (s.releaseEvent w p).claim x q = s.claim x q := rfl
@[simp] theorem State.releaseEvent_recordOf (s : State) (w : WinId) (p : PortId) (x : WinId) (c : BankId) :
    (s.releaseEvent w p).recordOf x c = s.recordOf x c := rfl
@[simp] theorem State.releaseEvent_bank (s : State) (w : WinId) (p : PortId) (x : WinId) (c : BankId) :
    (s.releaseEvent w p).bank x c = s.bank x c := rfl

/-! #### offer -/

@[simp] theorem State.offer_rstn (s : State) (k : FaultKind) (w : Option WinId) (p : Option PortId) (l : Option Nat) :
    (s.offer k w p l).rstn = s.rstn := rfl
@[simp] theorem State.offer_ports (s : State) (k : FaultKind) (w : Option WinId) (p : Option PortId) (l : Option Nat) :
    (s.offer k w p l).ports = s.ports := rfl
@[simp] theorem State.offer_windows (s : State) (k : FaultKind) (w : Option WinId) (p : Option PortId) (l : Option Nat) :
    (s.offer k w p l).windows = s.windows := rfl
@[simp] theorem State.offer_pool (s : State) (k : FaultKind) (w : Option WinId) (p : Option PortId) (l : Option Nat) :
    (s.offer k w p l).pool = s.pool := rfl
@[simp] theorem State.offer_engine (s : State) (k : FaultKind) (w : Option WinId) (p : Option PortId) (l : Option Nat) :
    (s.offer k w p l).engine = s.engine := rfl
@[simp] theorem State.offer_mport (s : State) (k : FaultKind) (w : Option WinId) (p : Option PortId) (l : Option Nat) :
    (s.offer k w p l).mport = s.mport := rfl
@[simp] theorem State.offer_time (s : State) (k : FaultKind) (w : Option WinId) (p : Option PortId) (l : Option Nat) :
    (s.offer k w p l).time = s.time := rfl
@[simp] theorem State.offer_link (s : State) (k : FaultKind) (w : Option WinId) (p : Option PortId) (l : Option Nat) :
    (s.offer k w p l).link = s.link := rfl
@[simp] theorem State.offer_out (s : State) (k : FaultKind) (w : Option WinId) (p : Option PortId) (l : Option Nat) :
    (s.offer k w p l).out = s.out := rfl
@[simp] theorem State.offer_pending (s : State) (k : FaultKind) (w : Option WinId) (p : Option PortId) (l : Option Nat) :
    (s.offer k w p l).pending = s.pending := rfl
@[simp] theorem State.offer_cfg (s : State) (k : FaultKind) (w : Option WinId) (p : Option PortId) (l : Option Nat) (x : WinId) :
    (s.offer k w p l).cfg x = s.cfg x := rfl
@[simp] theorem State.offer_win (s : State) (k : FaultKind) (w : Option WinId) (p : Option PortId) (l : Option Nat) (x : WinId) :
    (s.offer k w p l).win x = s.win x := rfl
@[simp] theorem State.offer_claim (s : State) (k : FaultKind) (w : Option WinId) (p : Option PortId) (l : Option Nat) (x : WinId) (q : PortId) :
    (s.offer k w p l).claim x q = s.claim x q := rfl
@[simp] theorem State.offer_port (s : State) (k : FaultKind) (w : Option WinId) (p : Option PortId) (l : Option Nat) (q : PortId) :
    (s.offer k w p l).port q = s.port q := rfl
@[simp] theorem State.offer_recordOf (s : State) (k : FaultKind) (w : Option WinId) (p : Option PortId) (l : Option Nat) (x : WinId) (c : BankId) :
    (s.offer k w p l).recordOf x c = s.recordOf x c := rfl
@[simp] theorem State.offer_bank (s : State) (k : FaultKind) (w : Option WinId) (p : Option PortId) (l : Option Nat) (x : WinId) (c : BankId) :
    (s.offer k w p l).bank x c = s.bank x c := rfl

/-! #### handOver -/

@[simp] theorem State.handOver_rstn (s : State) (r : Requester) (ps : List MemReq) : (s.handOver r ps).rstn = s.rstn := rfl
@[simp] theorem State.handOver_ports (s : State) (r : Requester) (ps : List MemReq) : (s.handOver r ps).ports = s.ports := rfl
@[simp] theorem State.handOver_windows (s : State) (r : Requester) (ps : List MemReq) :
    (s.handOver r ps).windows = s.windows := rfl
@[simp] theorem State.handOver_pool (s : State) (r : Requester) (ps : List MemReq) : (s.handOver r ps).pool = s.pool := rfl
@[simp] theorem State.handOver_engine (s : State) (r : Requester) (ps : List MemReq) :
    (s.handOver r ps).engine = s.engine := rfl
@[simp] theorem State.handOver_time (s : State) (r : Requester) (ps : List MemReq) : (s.handOver r ps).time = s.time := rfl
@[simp] theorem State.handOver_faults (s : State) (r : Requester) (ps : List MemReq) :
    (s.handOver r ps).faults = s.faults := rfl
@[simp] theorem State.handOver_link (s : State) (r : Requester) (ps : List MemReq) : (s.handOver r ps).link = s.link := rfl
@[simp] theorem State.handOver_out (s : State) (r : Requester) (ps : List MemReq) : (s.handOver r ps).out = s.out := rfl
@[simp] theorem State.handOver_pending (s : State) (r : Requester) (ps : List MemReq) :
    (s.handOver r ps).pending = s.pending := rfl
@[simp] theorem State.handOver_cfg (s : State) (r : Requester) (ps : List MemReq) (x : WinId) :
    (s.handOver r ps).cfg x = s.cfg x := rfl
@[simp] theorem State.handOver_win (s : State) (r : Requester) (ps : List MemReq) (x : WinId) :
    (s.handOver r ps).win x = s.win x := rfl
@[simp] theorem State.handOver_claim (s : State) (r : Requester) (ps : List MemReq) (x : WinId) (q : PortId) :
    (s.handOver r ps).claim x q = s.claim x q := rfl
@[simp] theorem State.handOver_port (s : State) (r : Requester) (ps : List MemReq) (q : PortId) :
    (s.handOver r ps).port q = s.port q := rfl
@[simp] theorem State.handOver_recordOf (s : State) (r : Requester) (ps : List MemReq) (x : WinId) (c : BankId) :
    (s.handOver r ps).recordOf x c = s.recordOf x c := rfl
@[simp] theorem State.handOver_bank (s : State) (r : Requester) (ps : List MemReq) (x : WinId) (c : BankId) :
    (s.handOver r ps).bank x c = s.bank x c := rfl

/-! #### modJobs -/

@[simp] theorem State.modJobs_rstn (s : State) (f : List Job → List Job) : (s.modJobs f).rstn = s.rstn := rfl
@[simp] theorem State.modJobs_ports (s : State) (f : List Job → List Job) : (s.modJobs f).ports = s.ports := rfl
@[simp] theorem State.modJobs_windows (s : State) (f : List Job → List Job) : (s.modJobs f).windows = s.windows := rfl
@[simp] theorem State.modJobs_pool (s : State) (f : List Job → List Job) : (s.modJobs f).pool = s.pool := rfl
@[simp] theorem State.modJobs_mport (s : State) (f : List Job → List Job) : (s.modJobs f).mport = s.mport := rfl
@[simp] theorem State.modJobs_time (s : State) (f : List Job → List Job) : (s.modJobs f).time = s.time := rfl
@[simp] theorem State.modJobs_faults (s : State) (f : List Job → List Job) : (s.modJobs f).faults = s.faults := rfl
@[simp] theorem State.modJobs_link (s : State) (f : List Job → List Job) : (s.modJobs f).link = s.link := rfl
@[simp] theorem State.modJobs_out (s : State) (f : List Job → List Job) : (s.modJobs f).out = s.out := rfl
@[simp] theorem State.modJobs_pending (s : State) (f : List Job → List Job) : (s.modJobs f).pending = s.pending := rfl
@[simp] theorem State.modJobs_cfg (s : State) (f : List Job → List Job) (x : WinId) : (s.modJobs f).cfg x = s.cfg x := rfl
@[simp] theorem State.modJobs_win (s : State) (f : List Job → List Job) (x : WinId) : (s.modJobs f).win x = s.win x := rfl
@[simp] theorem State.modJobs_claim (s : State) (f : List Job → List Job) (x : WinId) (q : PortId) :
    (s.modJobs f).claim x q = s.claim x q := rfl
@[simp] theorem State.modJobs_port (s : State) (f : List Job → List Job) (q : PortId) : (s.modJobs f).port q = s.port q := rfl
@[simp] theorem State.modJobs_recordOf (s : State) (f : List Job → List Job) (x : WinId) (c : BankId) :
    (s.modJobs f).recordOf x c = s.recordOf x c := rfl
@[simp] theorem State.modJobs_bank (s : State) (f : List Job → List Job) (x : WinId) (c : BankId) :
    (s.modJobs f).bank x c = s.bank x c := rfl

/-! #### setBuffer -/

@[simp] theorem State.setBuffer_rstn (s : State) (x : GranuleBytes) : (s.setBuffer x).rstn = s.rstn := rfl
@[simp] theorem State.setBuffer_ports (s : State) (x : GranuleBytes) : (s.setBuffer x).ports = s.ports := rfl
@[simp] theorem State.setBuffer_windows (s : State) (x : GranuleBytes) : (s.setBuffer x).windows = s.windows := rfl
@[simp] theorem State.setBuffer_pool (s : State) (x : GranuleBytes) : (s.setBuffer x).pool = s.pool := rfl
@[simp] theorem State.setBuffer_mport (s : State) (x : GranuleBytes) : (s.setBuffer x).mport = s.mport := rfl
@[simp] theorem State.setBuffer_time (s : State) (x : GranuleBytes) : (s.setBuffer x).time = s.time := rfl
@[simp] theorem State.setBuffer_faults (s : State) (x : GranuleBytes) : (s.setBuffer x).faults = s.faults := rfl
@[simp] theorem State.setBuffer_link (s : State) (x : GranuleBytes) : (s.setBuffer x).link = s.link := rfl
@[simp] theorem State.setBuffer_out (s : State) (x : GranuleBytes) : (s.setBuffer x).out = s.out := rfl
@[simp] theorem State.setBuffer_pending (s : State) (x : GranuleBytes) : (s.setBuffer x).pending = s.pending := rfl
@[simp] theorem State.setBuffer_cfg (s : State) (x : GranuleBytes) (y : WinId) : (s.setBuffer x).cfg y = s.cfg y := rfl
@[simp] theorem State.setBuffer_win (s : State) (x : GranuleBytes) (y : WinId) : (s.setBuffer x).win y = s.win y := rfl
@[simp] theorem State.setBuffer_claim (s : State) (x : GranuleBytes) (y : WinId) (q : PortId) :
    (s.setBuffer x).claim y q = s.claim y q := rfl
@[simp] theorem State.setBuffer_port (s : State) (x : GranuleBytes) (q : PortId) : (s.setBuffer x).port q = s.port q := rfl
@[simp] theorem State.setBuffer_recordOf (s : State) (x : GranuleBytes) (y : WinId) (c : BankId) :
    (s.setBuffer x).recordOf y c = s.recordOf y c := rfl
@[simp] theorem State.setBuffer_bank (s : State) (x : GranuleBytes) (y : WinId) (c : BankId) :
    (s.setBuffer x).bank y c = s.bank y c := rfl

/-! #### requestOp -/

@[simp] theorem State.requestOp_rstn (s : State) (w : WinId) (r : MemReq) : (s.requestOp w r).rstn = s.rstn := rfl
@[simp] theorem State.requestOp_ports (s : State) (w : WinId) (r : MemReq) : (s.requestOp w r).ports = s.ports := rfl
@[simp] theorem State.requestOp_pool (s : State) (w : WinId) (r : MemReq) : (s.requestOp w r).pool = s.pool := rfl
@[simp] theorem State.requestOp_engine (s : State) (w : WinId) (r : MemReq) : (s.requestOp w r).engine = s.engine := rfl
@[simp] theorem State.requestOp_time (s : State) (w : WinId) (r : MemReq) : (s.requestOp w r).time = s.time := rfl
@[simp] theorem State.requestOp_faults (s : State) (w : WinId) (r : MemReq) : (s.requestOp w r).faults = s.faults := rfl
@[simp] theorem State.requestOp_link (s : State) (w : WinId) (r : MemReq) : (s.requestOp w r).link = s.link := rfl
@[simp] theorem State.requestOp_out (s : State) (w : WinId) (r : MemReq) : (s.requestOp w r).out = s.out := rfl
@[simp] theorem State.requestOp_pending (s : State) (w : WinId) (r : MemReq) : (s.requestOp w r).pending = s.pending := rfl
@[simp] theorem State.requestOp_cfg (s : State) (w : WinId) (r : MemReq) (x : WinId) : (s.requestOp w r).cfg x = s.cfg x := rfl
@[simp] theorem State.requestOp_port (s : State) (w : WinId) (r : MemReq) (q : PortId) :
    (s.requestOp w r).port q = s.port q := rfl
@[simp] theorem State.requestOp_recordOf (s : State) (w : WinId) (r : MemReq) (x : WinId) (c : BankId) :
    (s.requestOp w r).recordOf x c = s.recordOf x c := rfl
@[simp] theorem State.requestOp_bank (s : State) (w : WinId) (r : MemReq) (x : WinId) (c : BankId) :
    (s.requestOp w r).bank x c = s.bank x c := rfl

/-! #### openSession -/

@[simp] theorem State.openSession_rstn (s : State) (w : WinId) (b : BankId) : (s.openSession w b).rstn = s.rstn := rfl
@[simp] theorem State.openSession_ports (s : State) (w : WinId) (b : BankId) : (s.openSession w b).ports = s.ports := rfl
@[simp] theorem State.openSession_engine (s : State) (w : WinId) (b : BankId) : (s.openSession w b).engine = s.engine := rfl
@[simp] theorem State.openSession_mport (s : State) (w : WinId) (b : BankId) : (s.openSession w b).mport = s.mport := rfl
@[simp] theorem State.openSession_time (s : State) (w : WinId) (b : BankId) : (s.openSession w b).time = s.time := rfl
@[simp] theorem State.openSession_faults (s : State) (w : WinId) (b : BankId) : (s.openSession w b).faults = s.faults := rfl
@[simp] theorem State.openSession_link (s : State) (w : WinId) (b : BankId) : (s.openSession w b).link = s.link := rfl
@[simp] theorem State.openSession_out (s : State) (w : WinId) (b : BankId) : (s.openSession w b).out = s.out := rfl
@[simp] theorem State.openSession_pending (s : State) (w : WinId) (b : BankId) : (s.openSession w b).pending = s.pending := rfl
@[simp] theorem State.openSession_cfg (s : State) (w : WinId) (b : BankId) (x : WinId) :
    (s.openSession w b).cfg x = s.cfg x := rfl
@[simp] theorem State.openSession_port (s : State) (w : WinId) (b : BankId) (q : PortId) :
    (s.openSession w b).port q = s.port q := rfl

/-! #### writeSteered -/

@[simp] theorem State.writeSteered_rstn (s : State) (w : WinId) : (s.writeSteered w).rstn = s.rstn := rfl
@[simp] theorem State.writeSteered_ports (s : State) (w : WinId) : (s.writeSteered w).ports = s.ports := rfl
@[simp] theorem State.writeSteered_pool (s : State) (w : WinId) : (s.writeSteered w).pool = s.pool := rfl
@[simp] theorem State.writeSteered_engine (s : State) (w : WinId) : (s.writeSteered w).engine = s.engine := rfl
@[simp] theorem State.writeSteered_mport (s : State) (w : WinId) : (s.writeSteered w).mport = s.mport := rfl
@[simp] theorem State.writeSteered_time (s : State) (w : WinId) : (s.writeSteered w).time = s.time := rfl
@[simp] theorem State.writeSteered_faults (s : State) (w : WinId) : (s.writeSteered w).faults = s.faults := rfl
@[simp] theorem State.writeSteered_link (s : State) (w : WinId) : (s.writeSteered w).link = s.link := rfl
@[simp] theorem State.writeSteered_out (s : State) (w : WinId) : (s.writeSteered w).out = s.out := rfl
@[simp] theorem State.writeSteered_pending (s : State) (w : WinId) : (s.writeSteered w).pending = s.pending := rfl
@[simp] theorem State.writeSteered_cfg (s : State) (w : WinId) (x : WinId) : (s.writeSteered w).cfg x = s.cfg x := rfl
@[simp] theorem State.writeSteered_port (s : State) (w : WinId) (q : PortId) : (s.writeSteered w).port q = s.port q := rfl
@[simp] theorem State.writeSteered_recordOf (s : State) (w : WinId) (x : WinId) (c : BankId) :
    (s.writeSteered w).recordOf x c = s.recordOf x c := rfl
@[simp] theorem State.writeSteered_bank (s : State) (w : WinId) (x : WinId) (c : BankId) :
    (s.writeSteered w).bank x c = s.bank x c := rfl

/-! #### trigger -/

@[simp] theorem State.trigger_rstn (s : State) (w : WinId) (b : BankId) : (s.trigger w b).rstn = s.rstn := rfl
@[simp] theorem State.trigger_ports (s : State) (w : WinId) (b : BankId) : (s.trigger w b).ports = s.ports := rfl
@[simp] theorem State.trigger_engine (s : State) (w : WinId) (b : BankId) : (s.trigger w b).engine = s.engine := rfl
@[simp] theorem State.trigger_mport (s : State) (w : WinId) (b : BankId) : (s.trigger w b).mport = s.mport := rfl
@[simp] theorem State.trigger_time (s : State) (w : WinId) (b : BankId) : (s.trigger w b).time = s.time := rfl
@[simp] theorem State.trigger_faults (s : State) (w : WinId) (b : BankId) : (s.trigger w b).faults = s.faults := rfl
@[simp] theorem State.trigger_link (s : State) (w : WinId) (b : BankId) : (s.trigger w b).link = s.link := rfl
@[simp] theorem State.trigger_out (s : State) (w : WinId) (b : BankId) : (s.trigger w b).out = s.out := rfl
@[simp] theorem State.trigger_pending (s : State) (w : WinId) (b : BankId) : (s.trigger w b).pending = s.pending := rfl
@[simp] theorem State.trigger_cfg (s : State) (w : WinId) (b : BankId) (x : WinId) : (s.trigger w b).cfg x = s.cfg x := rfl
@[simp] theorem State.trigger_port (s : State) (w : WinId) (b : BankId) (q : PortId) : (s.trigger w b).port q = s.port q := rfl

/-! #### endSession -/

@[simp] theorem State.endSession_rstn (s : State) (w : WinId) (b : BankId) : (s.endSession w b).rstn = s.rstn := rfl
@[simp] theorem State.endSession_ports (s : State) (w : WinId) (b : BankId) : (s.endSession w b).ports = s.ports := rfl
@[simp] theorem State.endSession_engine (s : State) (w : WinId) (b : BankId) : (s.endSession w b).engine = s.engine := rfl
@[simp] theorem State.endSession_mport (s : State) (w : WinId) (b : BankId) : (s.endSession w b).mport = s.mport := rfl
@[simp] theorem State.endSession_time (s : State) (w : WinId) (b : BankId) : (s.endSession w b).time = s.time := rfl
@[simp] theorem State.endSession_faults (s : State) (w : WinId) (b : BankId) : (s.endSession w b).faults = s.faults := rfl
@[simp] theorem State.endSession_link (s : State) (w : WinId) (b : BankId) : (s.endSession w b).link = s.link := rfl
@[simp] theorem State.endSession_out (s : State) (w : WinId) (b : BankId) : (s.endSession w b).out = s.out := rfl
@[simp] theorem State.endSession_pending (s : State) (w : WinId) (b : BankId) : (s.endSession w b).pending = s.pending := rfl
@[simp] theorem State.endSession_cfg (s : State) (w : WinId) (b : BankId) (x : WinId) :
    (s.endSession w b).cfg x = s.cfg x := rfl
@[simp] theorem State.endSession_port (s : State) (w : WinId) (b : BankId) (q : PortId) :
    (s.endSession w b).port q = s.port q := rfl

/-! #### setLatch -/

@[simp] theorem State.setLatch_rstn (s : State) (a : Answer) : (s.setLatch a).rstn = s.rstn := rfl
@[simp] theorem State.setLatch_ports (s : State) (a : Answer) : (s.setLatch a).ports = s.ports := rfl
@[simp] theorem State.setLatch_windows (s : State) (a : Answer) : (s.setLatch a).windows = s.windows := rfl
@[simp] theorem State.setLatch_pool (s : State) (a : Answer) : (s.setLatch a).pool = s.pool := rfl
@[simp] theorem State.setLatch_engine (s : State) (a : Answer) : (s.setLatch a).engine = s.engine := rfl
@[simp] theorem State.setLatch_mport (s : State) (a : Answer) : (s.setLatch a).mport = s.mport := rfl
@[simp] theorem State.setLatch_time (s : State) (a : Answer) : (s.setLatch a).time = s.time := rfl
@[simp] theorem State.setLatch_faults (s : State) (a : Answer) : (s.setLatch a).faults = s.faults := rfl
@[simp] theorem State.setLatch_out (s : State) (a : Answer) : (s.setLatch a).out = s.out := rfl
@[simp] theorem State.setLatch_pending (s : State) (a : Answer) : (s.setLatch a).pending = s.pending := rfl
@[simp] theorem State.setLatch_cfg (s : State) (a : Answer) (x : WinId) : (s.setLatch a).cfg x = s.cfg x := rfl
@[simp] theorem State.setLatch_win (s : State) (a : Answer) (x : WinId) : (s.setLatch a).win x = s.win x := rfl
@[simp] theorem State.setLatch_claim (s : State) (a : Answer) (x : WinId) (q : PortId) :
    (s.setLatch a).claim x q = s.claim x q := rfl
@[simp] theorem State.setLatch_port (s : State) (a : Answer) (q : PortId) : (s.setLatch a).port q = s.port q := rfl
@[simp] theorem State.setLatch_recordOf (s : State) (a : Answer) (x : WinId) (c : BankId) :
    (s.setLatch a).recordOf x c = s.recordOf x c := rfl
@[simp] theorem State.setLatch_bank (s : State) (a : Answer) (x : WinId) (c : BankId) :
    (s.setLatch a).bank x c = s.bank x c := rfl

/-! #### stage -/

@[simp] theorem State.stage_rstn (s : State) (w : WinId) (c : WindowRec) : (s.stage w c).rstn = s.rstn := rfl
@[simp] theorem State.stage_ports (s : State) (w : WinId) (c : WindowRec) : (s.stage w c).ports = s.ports := rfl
@[simp] theorem State.stage_windows (s : State) (w : WinId) (c : WindowRec) : (s.stage w c).windows = s.windows := rfl
@[simp] theorem State.stage_pool (s : State) (w : WinId) (c : WindowRec) : (s.stage w c).pool = s.pool := rfl
@[simp] theorem State.stage_engine (s : State) (w : WinId) (c : WindowRec) : (s.stage w c).engine = s.engine := rfl
@[simp] theorem State.stage_mport (s : State) (w : WinId) (c : WindowRec) : (s.stage w c).mport = s.mport := rfl
@[simp] theorem State.stage_time (s : State) (w : WinId) (c : WindowRec) : (s.stage w c).time = s.time := rfl
@[simp] theorem State.stage_faults (s : State) (w : WinId) (c : WindowRec) : (s.stage w c).faults = s.faults := rfl
@[simp] theorem State.stage_out (s : State) (w : WinId) (c : WindowRec) : (s.stage w c).out = s.out := rfl
@[simp] theorem State.stage_pending (s : State) (w : WinId) (c : WindowRec) : (s.stage w c).pending = s.pending := rfl
@[simp] theorem State.stage_win (s : State) (w : WinId) (c : WindowRec) (x : WinId) : (s.stage w c).win x = s.win x := rfl
@[simp] theorem State.stage_claim (s : State) (w : WinId) (c : WindowRec) (x : WinId) (q : PortId) :
    (s.stage w c).claim x q = s.claim x q := rfl
@[simp] theorem State.stage_port (s : State) (w : WinId) (c : WindowRec) (q : PortId) : (s.stage w c).port q = s.port q := rfl
@[simp] theorem State.stage_recordOf (s : State) (w : WinId) (c : WindowRec) (x : WinId) (d : BankId) :
    (s.stage w c).recordOf x d = s.recordOf x d := rfl
@[simp] theorem State.stage_bank (s : State) (w : WinId) (c : WindowRec) (x : WinId) (d : BankId) :
    (s.stage w c).bank x d = s.bank x d := rfl

/-! #### csnRisen -/

@[simp] theorem State.csnRisen_rstn (s : State) : (s.csnRisen).rstn = s.rstn := rfl
@[simp] theorem State.csnRisen_ports (s : State) : (s.csnRisen).ports = s.ports := rfl
@[simp] theorem State.csnRisen_windows (s : State) : (s.csnRisen).windows = s.windows := rfl
@[simp] theorem State.csnRisen_pool (s : State) : (s.csnRisen).pool = s.pool := rfl
@[simp] theorem State.csnRisen_engine (s : State) : (s.csnRisen).engine = s.engine := rfl
@[simp] theorem State.csnRisen_mport (s : State) : (s.csnRisen).mport = s.mport := rfl
@[simp] theorem State.csnRisen_time (s : State) : (s.csnRisen).time = s.time := rfl
@[simp] theorem State.csnRisen_faults (s : State) : (s.csnRisen).faults = s.faults := rfl
@[simp] theorem State.csnRisen_out (s : State) : (s.csnRisen).out = s.out := rfl
@[simp] theorem State.csnRisen_pending (s : State) : (s.csnRisen).pending = s.pending := rfl
@[simp] theorem State.csnRisen_cfg (s : State) (x : WinId) : (s.csnRisen).cfg x = s.cfg x := rfl
@[simp] theorem State.csnRisen_win (s : State) (x : WinId) : (s.csnRisen).win x = s.win x := rfl
@[simp] theorem State.csnRisen_claim (s : State) (x : WinId) (q : PortId) : (s.csnRisen).claim x q = s.claim x q := rfl
@[simp] theorem State.csnRisen_port (s : State) (q : PortId) : (s.csnRisen).port q = s.port q := rfl
@[simp] theorem State.csnRisen_recordOf (s : State) (x : WinId) (c : BankId) : (s.csnRisen).recordOf x c = s.recordOf x c := rfl
@[simp] theorem State.csnRisen_bank (s : State) (x : WinId) (c : BankId) : (s.csnRisen).bank x c = s.bank x c := rfl

/-! #### modReceiver -/

@[simp] theorem State.modReceiver_rstn (s : State) (f : Receiver → Receiver) : (s.modReceiver f).rstn = s.rstn := rfl
@[simp] theorem State.modReceiver_ports (s : State) (f : Receiver → Receiver) : (s.modReceiver f).ports = s.ports := rfl
@[simp] theorem State.modReceiver_windows (s : State) (f : Receiver → Receiver) : (s.modReceiver f).windows = s.windows := rfl
@[simp] theorem State.modReceiver_pool (s : State) (f : Receiver → Receiver) : (s.modReceiver f).pool = s.pool := rfl
@[simp] theorem State.modReceiver_engine (s : State) (f : Receiver → Receiver) : (s.modReceiver f).engine = s.engine := rfl
@[simp] theorem State.modReceiver_mport (s : State) (f : Receiver → Receiver) : (s.modReceiver f).mport = s.mport := rfl
@[simp] theorem State.modReceiver_time (s : State) (f : Receiver → Receiver) : (s.modReceiver f).time = s.time := rfl
@[simp] theorem State.modReceiver_faults (s : State) (f : Receiver → Receiver) : (s.modReceiver f).faults = s.faults := rfl
@[simp] theorem State.modReceiver_out (s : State) (f : Receiver → Receiver) : (s.modReceiver f).out = s.out := rfl
@[simp] theorem State.modReceiver_pending (s : State) (f : Receiver → Receiver) : (s.modReceiver f).pending = s.pending := rfl
@[simp] theorem State.modReceiver_cfg (s : State) (f : Receiver → Receiver) (x : WinId) :
    (s.modReceiver f).cfg x = s.cfg x := rfl
@[simp] theorem State.modReceiver_win (s : State) (f : Receiver → Receiver) (x : WinId) :
    (s.modReceiver f).win x = s.win x := rfl
@[simp] theorem State.modReceiver_claim (s : State) (f : Receiver → Receiver) (x : WinId) (q : PortId) :
    (s.modReceiver f).claim x q = s.claim x q := rfl
@[simp] theorem State.modReceiver_port (s : State) (f : Receiver → Receiver) (q : PortId) :
    (s.modReceiver f).port q = s.port q := rfl
@[simp] theorem State.modReceiver_recordOf (s : State) (f : Receiver → Receiver) (x : WinId) (c : BankId) :
    (s.modReceiver f).recordOf x c = s.recordOf x c := rfl
@[simp] theorem State.modReceiver_bank (s : State) (f : Receiver → Receiver) (x : WinId) (c : BankId) :
    (s.modReceiver f).bank x c = s.bank x c := rfl

/-! #### frameEnded -/

@[simp] theorem State.frameEnded_rstn (s : State) (n : Nat) : (s.frameEnded n).rstn = s.rstn := rfl
@[simp] theorem State.frameEnded_ports (s : State) (n : Nat) : (s.frameEnded n).ports = s.ports := rfl
@[simp] theorem State.frameEnded_windows (s : State) (n : Nat) : (s.frameEnded n).windows = s.windows := rfl
@[simp] theorem State.frameEnded_pool (s : State) (n : Nat) : (s.frameEnded n).pool = s.pool := rfl
@[simp] theorem State.frameEnded_engine (s : State) (n : Nat) : (s.frameEnded n).engine = s.engine := rfl
@[simp] theorem State.frameEnded_mport (s : State) (n : Nat) : (s.frameEnded n).mport = s.mport := rfl
@[simp] theorem State.frameEnded_time (s : State) (n : Nat) : (s.frameEnded n).time = s.time := rfl
@[simp] theorem State.frameEnded_faults (s : State) (n : Nat) : (s.frameEnded n).faults = s.faults := rfl
@[simp] theorem State.frameEnded_pending (s : State) (n : Nat) : (s.frameEnded n).pending = s.pending := rfl
@[simp] theorem State.frameEnded_cfg (s : State) (n : Nat) (x : WinId) : (s.frameEnded n).cfg x = s.cfg x := rfl
@[simp] theorem State.frameEnded_win (s : State) (n : Nat) (x : WinId) : (s.frameEnded n).win x = s.win x := rfl
@[simp] theorem State.frameEnded_claim (s : State) (n : Nat) (x : WinId) (q : PortId) :
    (s.frameEnded n).claim x q = s.claim x q := rfl
@[simp] theorem State.frameEnded_port (s : State) (n : Nat) (q : PortId) : (s.frameEnded n).port q = s.port q := rfl
@[simp] theorem State.frameEnded_recordOf (s : State) (n : Nat) (x : WinId) (c : BankId) :
    (s.frameEnded n).recordOf x c = s.recordOf x c := rfl
@[simp] theorem State.frameEnded_bank (s : State) (n : Nat) (x : WinId) (c : BankId) :
    (s.frameEnded n).bank x c = s.bank x c := rfl

end Sys2Proof.Machine
end

