-- ==== Sys2Proof/Laws/Values.lean ====
section
/-! SUPPORT. What each shared operation writes: the value of the one block it changes, at the place it changes and everywhere
else. -/

namespace Sys2Proof.Machine

open Sys2Proof

set_option Elab.async false

/-! ### Vectors -/

@[simp] theorem mapVec_getElem {α β : Type} {n : Nat} (f : α → β) (v : Vector α n) (i : Nat) (h : i < n) :
    (mapVec f v)[i] = f v[i] := by
  simp [mapVec]

@[simp] theorem mapVec_getElem_fin {α β : Type} {n : Nat} (f : α → β) (v : Vector α n) (i : Fin n) :
    (mapVec f v)[i] = f v[i] := by
  simp [mapVec]

/-- A write leaves the other places alone. -/
theorem vector_set_get_fin_ne {α : Type} {n : Nat} (v : Vector α n) {i j : Fin n} (a : α) (h : j ≠ i) :
    (v.set i.val a)[j] = v[j] := by
  have : i.val ≠ j.val := fun e => h (Fin.ext e.symm)
  simp [this]

/-! ### Window controllers -/

theorem State.modWin_windows (s : State) (w : WinId) (f : WinCtl → WinCtl) :
    (s.modWin w f).windows = s.windows.set w.val (f (s.win w)) := rfl

@[simp] theorem State.win_modWin_same (s : State) (w : WinId) (f : WinCtl → WinCtl) : (s.modWin w f).win w = f (s.win w) := by
  simp [State.win, State.modWin]

theorem State.win_modWin_ne (s : State) {w x : WinId} (f : WinCtl → WinCtl) (h : x ≠ w) : (s.modWin w f).win x = s.win x := by
  simpa [State.win, State.modWin] using vector_set_get_fin_ne s.windows (f s.windows[w]) h

/-- Two changes of one controller are one. -/
@[simp] theorem State.modWin_modWin (s : State) (w : WinId) (f g : WinCtl → WinCtl) :
    (s.modWin w f).modWin w g = s.modWin w fun x => g (f x) := by
  simp [State.modWin]

/-- The controller of a window after a change of a claim record of it. -/
@[simp] theorem State.win_modClaim_same (s : State) (w : WinId) (p : PortId) (f : Claim → Claim) :
    (s.modClaim w p f).win w = { s.win w with claims := (s.win w).claims.set p.val (f (s.claim w p)) } := by
  simp [State.modClaim, WinCtl.modClaim, State.claim]

@[simp] theorem State.claim_modClaim_same (s : State) (w : WinId) (p : PortId) (f : Claim → Claim) :
    (s.modClaim w p f).claim w p = f (s.claim w p) := by
  simp [State.claim]

theorem State.claim_modClaim_ne (s : State) (w : WinId) {p q : PortId} (f : Claim → Claim) (h : q ≠ p) :
    (s.modClaim w p f).claim w q = s.claim w q := by
  simpa [State.claim] using vector_set_get_fin_ne (s.win w).claims (f (s.claim w p)) h

/-! ### Bank records -/

/-- A change of a record keeps which record describes which bank (R10). -/
@[simp] theorem State.recordOf_modBank (s : State) (w : WinId) (b : BankId) (f : BankRec → BankRec) (x : WinId) (c : BankId) :
    (s.modBank w b f).recordOf x c = s.recordOf x c := by
  unfold State.recordOf
  congr 1
  funext i
  unfold State.modBank modRecord
  cases h : s.recordOf w b with
  | none => rfl
  | some k =>
    by_cases hk : i = k
    · subst hk; simp
    · have := vector_set_get_fin_ne s.pool { f s.pool[k] with owner := s.pool[k].owner, pbase := s.pool[k].pbase } hk
      simp only [this]

/-- The record of a bank that the pool describes. -/
theorem State.bank_of_record (s : State) {w : WinId} {b : BankId} {i : RecId} (h : s.recordOf w b = some i) :
    s.bank w b = s.pool[i] := by
  simp [State.bank, h]

/-- The owner of the record that describes a bank. -/
theorem State.owner_of_record (s : State) {w : WinId} {b : BankId} {i : RecId} (h : s.recordOf w b = some i) :
    s.pool[i].owner = some (w, b) := by
  simpa using List.find?_some h

/-- Two banks are described by different records. -/
theorem State.record_inj (s : State) {w x : WinId} {b c : BankId} {i : RecId} (h : s.recordOf w b = some i)
    (k : s.recordOf x c = some i) : w = x ∧ b = c := by
  have := (s.owner_of_record h).symm.trans (s.owner_of_record k)
  simpa using this

/-- The changed record, OWNER and PBASE kept. -/
theorem State.bank_modBank_same (s : State) {w : WinId} {b : BankId} (f : BankRec → BankRec)
    (h : (s.recordOf w b).isSome = true) :
    (s.modBank w b f).bank w b = { f (s.bank w b) with owner := (s.bank w b).owner, pbase := (s.bank w b).pbase } := by
  obtain ⟨i, hi⟩ := Option.isSome_iff_exists.mp h
  simp [State.bank, hi]
  simp [State.modBank, hi, modRecord]

/-- The other banks. -/
theorem State.bank_modBank_ne (s : State) {w x : WinId} {b c : BankId} (f : BankRec → BankRec) (h : ¬ (x = w ∧ c = b)) :
    (s.modBank w b f).bank x c = s.bank x c := by
  simp only [State.bank, State.recordOf_modBank]
  cases hc : s.recordOf x c with
  | none => rfl
  | some i =>
    cases hb : s.recordOf w b with
    | none => simp [State.modBank, hb, modRecord]
    | some k =>
      have hik : i ≠ k := by
        rintro rfl
        exact h (s.record_inj hc hb)
      simp only [State.modBank, hb, modRecord]
      exact vector_set_get_fin_ne _ _ hik

/-- The other records of the pool. -/
theorem State.pool_modBank_ne (s : State) {w : WinId} {b : BankId} (f : BankRec → BankRec) (i : RecId)
    (h : s.recordOf w b ≠ some i) : (s.modBank w b f).pool[i] = s.pool[i] := by
  cases hb : s.recordOf w b with
  | none => simp [State.modBank, hb, modRecord]
  | some k =>
    have hik : i ≠ k := by
      rintro rfl
      exact h hb
    simp only [State.modBank, hb, modRecord]
    exact vector_set_get_fin_ne _ _ hik

/-- A change that keeps the states keeps which bank is the lowest in a state. -/
theorem State.findBank_congr {s t : State} (w : WinId) (x : BankState) (hc : t.cfg w = s.cfg w)
    (hb : ∀ b, (t.bank w b).state = (s.bank w b).state) : t.findBank w x = s.findBank w x := by
  unfold State.findBank
  rw [hc]
  congr 1
  funext b
  rw [hb]

/-! ### Ports -/

@[simp] theorem State.port_modEntries_same (s : State) (p : PortId) (f : List Entry → List Entry) :
    (s.modEntries p f).port p = { s.port p with entries := f (s.port p).entries } := by
  simp [State.port, State.modEntries]

theorem State.port_modEntries_ne (s : State) {p q : PortId} (f : List Entry → List Entry) (h : q ≠ p) :
    (s.modEntries p f).port q = s.port q := by
  simpa [State.port, State.modEntries] using
    vector_set_get_fin_ne s.ports { s.ports[p] with entries := f s.ports[p].entries } h

/-- A release event reaches no entry of a port that holds none. -/
theorem State.releaseEvent_of_no_hold (s : State) (w : WinId) (p : PortId)
    (h : ∀ e ∈ (s.port p).entries, e.state ≠ .held) : s.releaseEvent w p = s := by
  have hm : (s.port p).entries.map (Entry.release w) = (s.port p).entries := by
    conv => rhs; rw [← List.map_id (s.port p).entries]
    apply List.map_congr_left
    intro e he
    simp [Entry.release, Entry.isHeldBy, h e he]
  unfold State.releaseEvent State.modEntries
  have : ({ s.ports[p] with entries := s.ports[p].entries.map (Entry.release w) } : PortUnit) = s.ports[p] := by
    have h2 : s.ports[p].entries.map (Entry.release w) = s.ports[p].entries := hm
    rw [h2]
  rw [this]
  simp

/-! ### Requests and faults -/

theorem State.handOver_mport (s : State) (r : Requester) (ps : List MemReq) :
    (s.handOver r ps).mport = { s.mport with queues := s.mport.queues.set r.val (s.mport.queues[r] ++ ps) } := rfl

/-- The fault queue never holds more than 16 records, whatever is offered (R166, R168). -/
theorem FaultUnit.take_length (u : FaultUnit) (r : FaultRec) (h : u.queue.length ≤ Config.faultMax) :
    (u.take r).queue.length ≤ Config.faultMax := by
  unfold FaultUnit.take
  split
  · simp [Config.faultMax] at *; omega
  · exact h

end Sys2Proof.Machine
end

