-- ==== Sys2Proof/Laws/Base.lean ====
section
/-! SUPPORT. What the window controllers, the ports, the merge engine and the memory port all leave alone: RSTn, the time base, the
staged table, the answer latch, the receiver, the record of outputs and the queue of commands. One equation for each shared
operation, so that a proof about a command cites it instead of unfolding the operation. -/

namespace Sys2Proof.Machine

open Sys2Proof

set_option Elab.async false

/-- The part of the state that no operation of a window, a port, the merge engine or the memory port changes. -/
structure Base where
  rstn : Bool
  time : TimeBase
  staged : Vector WindowRec 16
  latch : Answer
  receiver : Receiver
  out : Outputs
  pending : List Instr
  deriving DecidableEq, Repr

/-- The base of a state. -/
def State.base (s : State) : Base where
  rstn := s.rstn
  time := s.time
  staged := s.link.staged
  latch := s.link.latch
  receiver := s.link.receiver
  out := s.out
  pending := s.pending

/-- The window record in force is part of the base. -/
theorem State.cfg_of_base {s t : State} (h : t.base = s.base) (w : WinId) : t.cfg w = s.cfg w := by
  have : t.link.staged = s.link.staged := congrArg Base.staged h
  simp [State.cfg, this]

/-! ### The plain operations -/

@[simp] theorem State.base_modWin (s : State) (w : WinId) (f : WinCtl → WinCtl) : (s.modWin w f).base = s.base := rfl
@[simp] theorem State.base_modClaim (s : State) (w : WinId) (p : PortId) (f : Claim → Claim) :
    (s.modClaim w p f).base = s.base := rfl
@[simp] theorem State.base_modProd (s : State) (w : WinId) (f : ProducerRec → ProducerRec) :
    (s.modProd w f).base = s.base := rfl
@[simp] theorem State.base_countRefusal (s : State) (w : WinId) : (s.countRefusal w).base = s.base := rfl
@[simp] theorem State.base_countExpiry (s : State) (w : WinId) : (s.countExpiry w).base = s.base := rfl
@[simp] theorem State.base_countDrop (s : State) (w : WinId) : (s.countDrop w).base = s.base := rfl
@[simp] theorem State.base_countCommit (s : State) (w : WinId) : (s.countCommit w).base = s.base := rfl
@[simp] theorem State.base_opStarted (s : State) (w : WinId) : (s.opStarted w).base = s.base := rfl
@[simp] theorem State.base_opEnded (s : State) (w : WinId) : (s.opEnded w).base = s.base := rfl
@[simp] theorem State.base_modBank (s : State) (w : WinId) (b : BankId) (f : BankRec → BankRec) :
    (s.modBank w b f).base = s.base := rfl
@[simp] theorem State.base_setBankState (s : State) (w : WinId) (b : BankId) (x : BankState) :
    (s.setBankState w b x).base = s.base := rfl
@[simp] theorem State.base_takeRecord (s : State) (w : WinId) (b : BankId) : (s.takeRecord w b).base = s.base := rfl
@[simp] theorem State.base_reinitBanks (s : State) (w : WinId) : (s.reinitBanks w).base = s.base := rfl
@[simp] theorem State.base_freeBanks (s : State) (w : WinId) : (s.freeBanks w).base = s.base := rfl
@[simp] theorem State.base_modEntries (s : State) (p : PortId) (f : List Entry → List Entry) :
    (s.modEntries p f).base = s.base := rfl
@[simp] theorem State.base_releaseEvent (s : State) (w : WinId) (p : PortId) : (s.releaseEvent w p).base = s.base := rfl
@[simp] theorem State.base_offer (s : State) (k : FaultKind) (w : Option WinId) (p : Option PortId) (l : Option Nat) :
    (s.offer k w p l).base = s.base := rfl
@[simp] theorem State.base_handOver (s : State) (r : Requester) (ps : List MemReq) : (s.handOver r ps).base = s.base := rfl
@[simp] theorem State.base_modJobs (s : State) (f : List Job → List Job) : (s.modJobs f).base = s.base := rfl
@[simp] theorem State.base_setBuffer (s : State) (x : GranuleBytes) : (s.setBuffer x).base = s.base := rfl
@[simp] theorem State.base_requestOp (s : State) (w : WinId) (r : MemReq) : (s.requestOp w r).base = s.base := rfl
@[simp] theorem State.base_openSession (s : State) (w : WinId) (b : BankId) : (s.openSession w b).base = s.base := rfl
@[simp] theorem State.base_writeSteered (s : State) (w : WinId) : (s.writeSteered w).base = s.base := rfl
@[simp] theorem State.base_trigger (s : State) (w : WinId) (b : BankId) : (s.trigger w b).base = s.base := rfl
@[simp] theorem State.base_endSession (s : State) (w : WinId) (b : BankId) : (s.endSession w b).base = s.base := rfl

/-! ### Sessions -/

@[simp] theorem State.base_startHead (s : State) : s.startHead.base = s.base := by
  unfold State.startHead; repeat' split
  all_goals simp

@[simp] theorem State.base_appendJob (s : State) (j : Job) : (s.appendJob j).base = s.base := by
  unfold State.appendJob; split <;> simp

@[simp] theorem State.base_supersede (s : State) (w : WinId) : (s.supersede w).base = s.base := by
  unfold State.supersede; split <;> simp

@[simp] theorem State.base_publish (s : State) (w : WinId) (b : BankId) : (s.publish w b).base = s.base := by
  simp [State.publish]

@[simp] theorem State.base_queueCommit (s : State) (w : WinId) (b : BankId) : (s.queueCommit w b).base = s.base := by
  simp [State.queueCommit]

@[simp] theorem State.base_drop (s : State) (w : WinId) (b : BankId) (k : Option FaultKind) : (s.drop w b k).base = s.base := by
  unfold State.drop; cases k <;> simp

@[simp] theorem State.base_beginMerge (s : State) (w : WinId) (b : BankId) : (s.beginMerge w b).base = s.base := by
  simp [State.beginMerge]

@[simp] theorem State.base_commitDecision (s : State) (w : WinId) (b : BankId) : (s.commitDecision w b).base = s.base := by
  unfold State.commitDecision State.snapshotDecision State.queueDecision
  dsimp only
  repeat' split
  all_goals simp

@[simp] theorem State.base_testTrigger (s : State) (w : WinId) (b : BankId) (t : Txn) :
    (s.testTrigger w b t).base = s.base := by
  unfold State.testTrigger; split <;> simp

@[simp] theorem State.base_openExpiry (s : State) (w : WinId) : (s.openExpiry w).base = s.base := by
  unfold State.openExpiry; repeat' split
  all_goals simp

/-! ### Claims -/

@[simp] theorem State.base_openClaim (s : State) (w : WinId) (p : PortId) (b : BankId) : (s.openClaim w p b).base = s.base := by
  unfold State.openClaim; split <;> simp

@[simp] theorem State.base_releaseSnapshot (s : State) (w : WinId) (p : PortId) : (s.releaseSnapshot w p).base = s.base := by
  unfold State.releaseSnapshot; split <;> simp

@[simp] theorem State.base_dequeue (s : State) (w : WinId) : (s.dequeue w).base = s.base := by
  unfold State.dequeue; split <;> simp

@[simp] theorem State.base_releaseQueue (s : State) (w : WinId) (p : PortId) : (s.releaseQueue w p).base = s.base := by
  unfold State.releaseQueue; split <;> simp

@[simp] theorem State.base_releaseClaim (s : State) (w : WinId) (p : PortId) : (s.releaseClaim w p).base = s.base := by
  unfold State.releaseClaim; split <;> simp

@[simp] theorem State.base_claimExpiry (s : State) (w : WinId) (p : PortId) : (s.claimExpiry w p).base = s.base := by
  unfold State.claimExpiry; split <;> simp

@[simp] theorem State.base_claimDeadlineTaken (s : State) (w : WinId) (p : PortId) :
    (s.claimDeadlineTaken w p).base = s.base := by
  unfold State.claimDeadlineTaken; split <;> simp

/-! ### Drains -/

@[simp] theorem State.base_drainComplete (s : State) (w : WinId) : (s.drainComplete w).base = s.base := by
  simp only [State.base, State.drainComplete, Link.drainEnded]
  split <;> split <;> simp

@[simp] theorem State.base_drainCheck (s : State) (w : WinId) : (s.drainCheck w).base = s.base := by
  unfold State.drainCheck; split <;> simp

@[simp] theorem State.base_opDone (s : State) (w : WinId) : (s.opDone w).base = s.base := by
  simp [State.opDone]

/-- A fold of operations that keep the base keeps it. -/
theorem State.base_foldl {α : Type} (f : State → α → State) (h : ∀ s a, (f s a).base = s.base) (l : List α) (s : State) :
    (l.foldl f s).base = s.base := by
  induction l generalizing s with
  | nil => rfl
  | cons a l ih => simp [ih, h]

@[simp] theorem State.base_refuseHolds (s : State) (w : WinId) : (s.refuseHolds w).base = s.base := by
  unfold State.refuseHolds
  exact State.base_foldl _ (by simp) _ _

@[simp] theorem State.base_drainEntry (s : State) (w : WinId) (x : Life) : (s.drainEntry w x).base = s.base := by
  simp [State.drainEntry]

@[simp] theorem State.base_takeRecords (s : State) (w : WinId) : (s.takeRecords w).base = s.base := by
  unfold State.takeRecords
  exact State.base_foldl _ (by simp) _ _

/-! ### Dispatch and completion -/

@[simp] theorem State.base_settle (s : State) (p : PortId) (x : Treatment) : (s.settle p x).base = s.base := by
  cases x <;> simp [State.settle]

@[simp] theorem State.base_writeToFilling (s : State) (w : WinId) (p : PortId) (b : BankId) (e : Entry) :
    (s.writeToFilling w p b e).1.base = s.base := by
  unfold State.writeToFilling State.overlayWrite State.steerWrite
  dsimp only
  repeat' split
  all_goals simp

@[simp] theorem State.base_refuse (s : State) (w : WinId) : (s.refuse w).1.base = s.base := rfl

@[simp] theorem State.base_producerWrite (s : State) (w : WinId) (p : PortId) (e : Entry) :
    (s.producerWrite w p e).1.base = s.base := by
  unfold State.producerWrite State.noFreeBank State.refuseFull; repeat' split
  all_goals simp

@[simp] theorem State.base_producerRead (s : State) (w : WinId) (p : PortId) (e : Entry) :
    (s.producerRead w p e).1.base = s.base := by
  unfold State.producerRead; dsimp only; split <;> simp

@[simp] theorem State.base_serve (s : State) (w : WinId) (p : PortId) (b : BankId) (e : Entry) :
    (s.serve w p b e).1.base = s.base := by
  unfold State.serve State.serveSnapshot State.serveQueue State.sendRead State.setClosing
  dsimp only
  repeat' split
  all_goals simp

@[simp] theorem State.base_emptyRead (s : State) (w : WinId) (p : PortId) (e : Entry) :
    (s.emptyRead w p e).1.base = s.base := by
  unfold State.emptyRead; repeat' split
  all_goals simp

@[simp] theorem State.base_openAndServe (s : State) (w : WinId) (p : PortId) (b : BankId) (e : Entry) :
    (s.openAndServe w p b e).1.base = s.base := by
  simp [State.openAndServe]

@[simp] theorem State.base_consumerRead (s : State) (w : WinId) (p : PortId) (e : Entry) :
    (s.consumerRead w p e).1.base = s.base := by
  unfold State.consumerRead State.snapshotConsumerRead State.queueConsumerRead State.restart State.setClosing
  dsimp only
  repeat' split
  all_goals simp

@[simp] theorem State.base_consumerWrite (s : State) (w : WinId) (p : PortId) (e : Entry) :
    (s.consumerWrite w p e).1.base = s.base := by
  unfold State.consumerWrite State.setClosing
  dsimp only
  repeat' split
  all_goals simp

@[simp] theorem State.base_treat (s : State) (p : PortId) (e : Entry) : (s.treat p e).1.base = s.base := by
  unfold State.treat State.windowAccess; repeat' split
  all_goals simp

@[simp] theorem State.base_afterWrite (s : State) (w : WinId) (b : BankId) (e : Entry) :
    (s.afterWrite w b e).base = s.base := by
  unfold State.afterWrite State.abandonLate; dsimp only; repeat' split
  all_goals simp

@[simp] theorem State.base_windowDone (s : State) (w : WinId) (p : PortId) (e : Entry) :
    (s.windowDone w p e).base = s.base := by
  unfold State.windowDone State.writeDone State.writeLanded State.writeError State.producerReadDone State.consumerReadDone
    State.readError State.claimCheck
  dsimp only
  repeat' split
  all_goals simp

@[simp] theorem State.base_portCompletion (s : State) (p : PortId) (o : Issue) (ok : Bool) (d : Burst) :
    (s.portCompletion p o ok d).base = s.base := by
  unfold State.portCompletion; repeat' split
  all_goals simp

@[simp] theorem State.base_engineCompletion (s : State) (w : WinId) (ok : Bool) (d : Burst) :
    (s.engineCompletion w ok d).base = s.base := by
  unfold State.engineCompletion State.granuleFetched State.granuleStored State.mergeSuccess State.mergeFailure
  dsimp only
  repeat' split
  all_goals simp

@[simp] theorem State.base_route (s : State) (o : Issue) (ok : Bool) (d : Burst) : (s.route o ok d).base = s.base := by
  unfold State.route; repeat' split
  all_goals simp

@[simp] theorem State.base_holdExpiry (s : State) (p : PortId) (w : WinId) (e : Entry) :
    (s.holdExpiry p w e).base = s.base := by
  unfold State.holdExpiry; dsimp only; split <;> simp

/-! ### Taking deadlines -/

@[simp] theorem State.base_takeOpen (s : State) (w : WinId) : (s.takeOpen w).base = s.base := by
  unfold State.takeOpen; split <;> simp

@[simp] theorem State.base_takeClaim (s : State) (w : WinId) (p : PortId) : (s.takeClaim w p).base = s.base := by
  unfold State.takeClaim; split <;> simp

@[simp] theorem State.base_takeHold (s : State) (p : PortId) : (s.takeHold p).base = s.base := by
  unfold State.takeHold; repeat' split
  all_goals simp

@[simp] theorem State.base_takeDeadline (s : State) (d : Deadline) : (s.takeDeadline d).base = s.base := by
  cases d <;> simp [State.takeDeadline]

@[simp] theorem State.base_takeDue (s : State) : s.takeDue.base = s.base := by
  unfold State.takeDue
  exact State.base_foldl _ (by simp) _ _

/-- An increment changes the time base and, of the rest, only what the deadlines it takes change (R156, R159). -/
theorem State.base_increment (s : State) : s.increment.base = { s.base with time := s.time.tick } :=
  (State.base_takeDue _).trans rfl

end Sys2Proof.Machine
end

