-- ==== Sys2Proof/Laws/Dispatch.lean ====
section
/-! SUPPORT. The dispatch of a transaction, once: what the decoder finds for a transaction that lies in a window, and what the port
records for each treatment; and what the three deadline commands take. -/

namespace Sys2Proof.Machine

open Sys2Proof

set_option Elab.async false

variable {s : State} {p : PortId} {e : Entry} {w : WinId}

/-! ### The entry a port dispatches -/

theorem State.heldEntry_none (h : ∀ x ∈ (s.port p).entries, x.state ≠ .held) : s.heldEntry p = none := by
  simp only [State.heldEntry, List.find?_eq_none]
  intro x hx
  simp [Entry.isHeld, h x hx]

theorem State.dispatchable_of (h : s.Dispatches p e) : s.dispatchable p = some e := by
  simp [State.dispatchable, h.running, State.heldEntry_none h.noHold, h.oldest]

theorem State.exec_dispatch (h : s.Dispatches p e) :
    exec (.dispatch p) s = .next ((s.treat p e).1.settle p (s.treat p e).2) := by
  simp [exec, execDispatch, State.dispatchable_of h]

/-! ### Classification -/

theorem bytes_pos (t : Txn) : 0 < t.bytes := by
  unfold Txn.bytes BeatSize.bytes
  cases t.beatSize <;> simp

theorem mem_liveWindows {x : WinId} : x ∈ s.liveWindows ↔ (s.win x).life ≠ .off := by
  simp [State.liveWindows]

/-- A transaction that touches no shadow range passes test 2. -/
theorem shadowTouched_none {t : Txn} (h : s.ClearOfShadows t) : s.shadowTouched t = none := by
  simp only [State.shadowTouched, List.find?_eq_none]
  intro x hx
  rw [mem_liveWindows] at hx
  simp only [List.any_eq_true, not_exists, not_and, Bool.not_eq_true]
  intro k hk
  simp only [WindowRec.shadowIds, WindowRec.bankIds, List.mem_filter, List.mem_finRange, true_and, decide_eq_true_eq] at hk
  exact h x k hx hk.2 hk.1

/-- A transaction within a window range touches it. -/
theorem touches_of_within {t : Txn} {c : WindowRec} (h : withinWindow t c = true) : touchesRange t c 0 = true := by
  have hb := bytes_pos t
  simp only [withinWindow, Bool.and_eq_true, decide_eq_true_eq] at h
  simp only [touchesRange, Range.overlaps, decide_eq_true_eq]
  simp only [spanRange, firstByte, lastByte] at *
  omega

/-- The window that a transaction lies in is the one the decoder finds. -/
theorem windowTouched_of {t : Txn} (h : s.LiesIn t w) : s.windowTouched t = some w := by
  unfold State.windowTouched
  have hw : w ∈ s.liveWindows := mem_liveWindows.mpr h.live
  have ht := touches_of_within h.within
  have hone : ∀ x ∈ s.liveWindows, touchesRange t (s.cfg x) 0 = true → x = w := by
    intro x hx hxt
    by_contra hne
    have := h.alone x hne (mem_liveWindows.mp hx)
    simp [this] at hxt
  cases hf : s.liveWindows.find? fun x => touchesRange t (s.cfg x) 0 with
  | none =>
    have := List.find?_eq_none.mp hf w hw
    simp [ht] at this
  | some x => rw [hone x (List.mem_of_find?_eq_some hf) (by simpa using List.find?_some hf)]

/-- The class of a transaction that lies in a window, by the window's state and the port's role (R130, tests 4 to 6). -/
theorem classify_of_liesIn {t : Txn} (h : s.LiesIn t w) :
    s.classify p t =
      if (s.win w).life ≠ .active then .inactive w else if hasRole (s.cfg w) p then .window w else .foreign w := by
  simp [State.classify, h.formed, shadowTouched_none h.shadows, windowTouched_of h, h.within]

theorem treat_producer (h : s.ProducerDispatch p e w) :
    s.treat p e =
      match e.txn.kind with
      | .write => s.producerWrite w p e
      | .read => s.producerRead w p e := by
  have hr : hasRole (s.cfg w) p = true := by simp [hasRole, h.role]
  cases hk : e.txn.kind <;> simp [State.treat, classify_of_liesIn h.lies, h.active, hr, State.windowAccess, h.role, hk]

theorem treat_consumer (h : s.ConsumerDispatch p e w) :
    s.treat p e =
      match e.txn.kind with
      | .write => s.consumerWrite w p e
      | .read => s.consumerRead w p e := by
  have hr : hasRole (s.cfg w) p = true := by simp [hasRole, h.role]
  cases hk : e.txn.kind <;> simp [State.treat, classify_of_liesIn h.lies, h.active, hr, State.windowAccess, h.notProducer, hk]

/-! ### What the port records -/

theorem answersEntry_settle {u : State} (hp : u.ports = s.ports) (code : Code) (data : List Byte) :
    s.AnswersEntry (u.settle p (.answered code data)) p code data := by
  have hq : ∀ q, u.port q = s.port q := fun q => by simp [State.port, hp]
  refine ⟨?_, fun q hne => ?_⟩
  · simp only [State.settle, State.port_modEntries_same, hq]
    rfl
  · simp [State.settle, State.port_modEntries_ne _ _ hne, hq]

theorem sendsEntry_settle {u : State} (hp : u.ports = s.ports) (hm : u.mport = s.mport) (parts : List MemReq)
    (data : List Byte) (dest : Option BankId) (trigger : Bool) :
    s.SendsEntry (u.settle p (.sent parts data dest trigger)) p parts data dest trigger := by
  have hq : ∀ q, u.port q = s.port q := fun q => by simp [State.port, hp]
  refine ⟨?_, fun q hne => ?_, ?_⟩
  · simp only [State.settle, State.handOver_port, State.port_modEntries_same, hq]
    rfl
  · simp [State.settle, State.port_modEntries_ne _ _ hne, hq]
  · simp [State.settle, State.handOver_mport, hm]

theorem holdsEntry_settle {u : State} (hp : u.ports = s.ports) (hb : u.base = s.base) :
    s.HoldsEntry (u.settle p (.held w)) p w := by
  have hq : ∀ q, u.port q = s.port q := fun q => by simp [State.port, hp]
  have ht : u.time = s.time := congrArg Base.time hb
  refine ⟨?_, fun q hne => ?_⟩
  · simp only [State.settle, State.port_modEntries_same, hq, State.cfg_of_base hb, State.due, ht]
    rfl
  · simp [State.settle, State.port_modEntries_ne _ _ hne, hq]

/-! ### The deadlines -/

@[simp] theorem deadlineOf_command (d : Deadline) : deadlineOf d.command = some d := by cases d <;> rfl

@[simp] theorem mem_allDeadlines (d : Deadline) : d ∈ allDeadlines := by cases d <;> simp [allDeadlines]

theorem State.exec_deadline (s : State) (d : Deadline) (h : s.rstn = true) : exec d.command s = .next (s.takeDeadline d) := by
  cases d <;>
    simp [Deadline.command, State.takeDeadline, exec, execOpenDeadline, execClaimDeadline, execHoldDeadline, h]

end Sys2Proof.Machine
end

