-- ==== Sys2Proof/Laws/PerInstr.lean ====
section
/-! SUPPORT. The family of laws stated constructor by constructor: a command that a management frame carries has its opcode in the
table of 11.3, or is UNDEFINED_OPCODE. -/

namespace Sys2Proof.Laws

open Sys2Proof

set_option Elab.async false

/-- The opcode of a command, if it has one, is listed in 11.3 unless the command is the one for opcodes outside it (R180). -/
def OpcodeListed.Statement (i : Instr) : Prop :=
  ∀ op, opcodeOf i = some op → (∃ r, i = .undefinedOpcode op r) ∨ isCommandOpcode op = true

theorem OpcodeListed.rstnAssert : OpcodeListed.Statement .rstnAssert := by simp [OpcodeListed.Statement, opcodeOf]

theorem OpcodeListed.rstnRelease (csnLow : Bool) : OpcodeListed.Statement (.rstnRelease csnLow) :=
  by simp [OpcodeListed.Statement, opcodeOf]

theorem OpcodeListed.accept (p : PortId) (t : Txn) : OpcodeListed.Statement (.accept p t) :=
  by simp [OpcodeListed.Statement, opcodeOf]

theorem OpcodeListed.dispatch (p : PortId) : OpcodeListed.Statement (.dispatch p) :=
  by simp [OpcodeListed.Statement, opcodeOf]

theorem OpcodeListed.responseReturn (p : PortId) : OpcodeListed.Statement (.responseReturn p) :=
  by simp [OpcodeListed.Statement, opcodeOf]

theorem OpcodeListed.grant : OpcodeListed.Statement .grant := by simp [OpcodeListed.Statement, opcodeOf]

theorem OpcodeListed.memoryCompletion (ok : Bool) (rdata : Burst) : OpcodeListed.Statement (.memoryCompletion ok rdata) :=
  by simp [OpcodeListed.Statement, opcodeOf]

theorem OpcodeListed.stampIncrement : OpcodeListed.Statement .stampIncrement := by simp [OpcodeListed.Statement, opcodeOf]

theorem OpcodeListed.openDeadline (w : WinId) : OpcodeListed.Statement (.openDeadline w) :=
  by simp [OpcodeListed.Statement, opcodeOf]

theorem OpcodeListed.claimDeadline (w : WinId) (p : PortId) : OpcodeListed.Statement (.claimDeadline w p) :=
  by simp [OpcodeListed.Statement, opcodeOf]

theorem OpcodeListed.holdDeadline (p : PortId) : OpcodeListed.Statement (.holdDeadline p) :=
  by simp [OpcodeListed.Statement, opcodeOf]

theorem OpcodeListed.frameError (bits : List Bool) : OpcodeListed.Statement (.frameError bits) :=
  by simp [OpcodeListed.Statement, opcodeOf]

theorem OpcodeListed.undefinedOpcode (opcode : Byte) (r : LinkReq) : OpcodeListed.Statement (.undefinedOpcode opcode r) :=
  fun _ h => .inl ⟨r, by simp_all [opcodeOf]⟩

theorem OpcodeListed.status (r : LinkReq) : OpcodeListed.Statement (.status r) := by
  intro op h
  cases h
  exact .inr (by decide)

theorem OpcodeListed.stageWrite (r : LinkReq) : OpcodeListed.Statement (.stageWrite r) := by
  intro op h
  cases h
  exact .inr (by decide)

theorem OpcodeListed.stageRead (r : LinkReq) : OpcodeListed.Statement (.stageRead r) := by
  intro op h
  cases h
  exact .inr (by decide)

theorem OpcodeListed.enable (r : LinkReq) : OpcodeListed.Statement (.enable r) := by
  intro op h
  cases h
  exact .inr (by decide)

theorem OpcodeListed.disable (r : LinkReq) : OpcodeListed.Statement (.disable r) := by
  intro op h
  cases h
  exact .inr (by decide)

theorem OpcodeListed.suspend (r : LinkReq) : OpcodeListed.Statement (.suspend r) := by
  intro op h
  cases h
  exact .inr (by decide)

theorem OpcodeListed.resume (r : LinkReq) : OpcodeListed.Statement (.resume r) := by
  intro op h
  cases h
  exact .inr (by decide)

theorem OpcodeListed.sessionClear (r : LinkReq) : OpcodeListed.Statement (.sessionClear r) := by
  intro op h
  cases h
  exact .inr (by decide)

theorem OpcodeListed.windowRead (r : LinkReq) : OpcodeListed.Statement (.windowRead r) := by
  intro op h
  cases h
  exact .inr (by decide)

theorem OpcodeListed.bankRead (r : LinkReq) : OpcodeListed.Statement (.bankRead r) := by
  intro op h
  cases h
  exact .inr (by decide)

theorem OpcodeListed.claimRead (r : LinkReq) : OpcodeListed.Statement (.claimRead r) := by
  intro op h
  cases h
  exact .inr (by decide)

theorem OpcodeListed.portRead (r : LinkReq) : OpcodeListed.Statement (.portRead r) := by
  intro op h
  cases h
  exact .inr (by decide)

theorem OpcodeListed.counterRead (r : LinkReq) : OpcodeListed.Statement (.counterRead r) := by
  intro op h
  cases h
  exact .inr (by decide)

theorem OpcodeListed.counterClear (r : LinkReq) : OpcodeListed.Statement (.counterClear r) := by
  intro op h
  cases h
  exact .inr (by decide)

theorem OpcodeListed.faultPeek (r : LinkReq) : OpcodeListed.Statement (.faultPeek r) := by
  intro op h
  cases h
  exact .inr (by decide)

theorem OpcodeListed.faultPop (r : LinkReq) : OpcodeListed.Statement (.faultPop r) := by
  intro op h
  cases h
  exact .inr (by decide)

theorem OpcodeListed.faultClear (r : LinkReq) : OpcodeListed.Statement (.faultClear r) := by
  intro op h
  cases h
  exact .inr (by decide)

theorem OpcodeListed.timeRead (r : LinkReq) : OpcodeListed.Statement (.timeRead r) := by
  intro op h
  cases h
  exact .inr (by decide)

theorem OpcodeListed.prescale (r : LinkReq) : OpcodeListed.Statement (.prescale r) := by
  intro op h
  cases h
  exact .inr (by decide)

theorem OpcodeListed.maskWrite (r : LinkReq) : OpcodeListed.Statement (.maskWrite r) := by
  intro op h
  cases h
  exact .inr (by decide)

theorem OpcodeListed.csnRiseWithoutFrame : OpcodeListed.Statement .csnRiseWithoutFrame :=
  by simp [OpcodeListed.Statement, opcodeOf]

end Sys2Proof.Laws
end

