-- ==== Sys2Proof/Tests/Slice0.lean ====
section
/-! SUPPORT. The model's own tests: a refused term for each check of WellFormed, request words written out from R177 and 11.3, a few
values the specification gives, and for each obligation with hypotheses a concrete state and operands that meet them, clause by
clause. -/

namespace Sys2Proof.Tests

open Sys2Proof Sys2Proof.Machine

set_option Elab.async false

/-! ### Small states -/

/-- A SNAPSHOT window: two granules at 0x1000, three banks, producer I0, consumer I1, overlay on. -/
def snapCfg : WindowRec :=
  { WindowRec.reset with
    base := 0x1000, granules := 2, consumers := 2, overlay := true, claimlim := 5, openlim := 5
    shadow := Vector.ofFn fun k => BitVec.ofNat 40 (0x2000 + 0x1000 * k.val) }

/-- A QUEUE window: two granules at 0xA000, two banks, producer I0, consumer I1. -/
def queueCfg : WindowRec :=
  { WindowRec.reset with
    mode := .queue, base := 0xA000, granules := 2, banks := 2, consumers := 2, trigger := .atHead
    shadow := Vector.ofFn fun k => BitVec.ofNat 40 (0xB000 + 0x1000 * k.val) }

/-- After reset, with a record staged for a window. -/
def staged (s : State) (w : WinId) (c : WindowRec) : State :=
  { s with link := { s.link with staged := s.link.staged.set w.val c } }

/-- Both windows staged, and OFF. -/
def offState : State := staged (staged State.reset 0 snapCfg) 1 queueCfg

/-- Both windows ACTIVE, nothing published. -/
def ready : State := (offState.enableWindow 0).enableWindow 1

/-- A transaction of 8-byte beats; a write stores every byte of its span. -/
def txn (kind : Kind) (addr : Nat) (burst : Fin 16) : Txn :=
  { tag := 0, kind := kind, addr := BitVec.ofNat 40 addr, beatSize := .b8, burst := burst, wdata := 0
    wen := match kind with
      | .write => BitVec.ofNat 128 (2 ^ (8 * (burst.val + 1)) - 1)
      | .read => 0 }

/-- The accepted-list entry of a transaction. -/
def entry (t : Txn) : Entry := Entry.accepted 0 t

/-- A state with one WAITING entry at a port. -/
def offering (s : State) (p : PortId) (t : Txn) : State := s.modEntries p fun _ => [entry t]

/-- A state with one DISPATCHED entry at a port, whose one part is the oldest outstanding issue. -/
def awaiting (s : State) (p : PortId) (t : Txn) (w : Option WinId) (dest : Option BankId) (trigger : Bool) (parts : Nat) : State :=
  let e := { entry t with state := .dispatched, parts := parts, dest := dest, trigger := trigger }
  let o : Issue :=
    { owner := requesterOf p, ref := .entry 0, window := w, kind := t.kind, addr := t.addr, beatSize := .b8, burst := t.burst
      pos := 0 }
  { s.modEntries p fun _ => [e] with mport := { s.mport with outstanding := [o] } }

/-- A bank in a state; a producer bank is named in the producer record. -/
def withBank (s : State) (w : WinId) (b : BankId) (x : BankState) : State :=
  (s.setBankState w b x).modProd w fun r => { r with bank := if x.isProducer then some b else r.bank }

/-- A claim record of port I1 changed. -/
def withClaim (s : State) (w : WinId) (f : Claim → Claim) : State := s.modClaim w 1 f

/-- SNAPSHOT window 0 with bank 0 CURRENT. -/
def published : State := withBank ready 0 0 .current

/-- SNAPSHOT window 0 with bank 0 HELD by I1 and bank 1 CURRENT. -/
def superseded : State :=
  withClaim (withBank ((withBank ready 0 0 .held).modBank 0 0 fun r => { r with holders := 2 }) 0 1 .current) 0
    fun k => { k with bank := some 0 }

/-- QUEUE window 1 with a message of one granule in bank 0. -/
def queued : State :=
  ((withBank ready 1 0 .queued).modBank 1 0 fun r => { r with length := 1 }).modWin 1 fun x => { x with order := [0] }

/-- The head of the queue claimed by I1. -/
def delivering : State := withClaim queued 1 fun k => { k with bank := some 0 }

/-- Window 0 of a state with its record changed. -/
def recfg (s : State) (w : WinId) (f : WindowRec → WindowRec) : State := staged s w (f (s.cfg w))

/-- A merge job of window 0 at the head of the list, its operation the oldest outstanding issue. -/
def merging (j : Job) : State :=
  let s := withBank ready 0 0 .merging
  let o : Issue :=
    { owner := 4, ref := .job 0, window := some 0, kind := .write, addr := 0x1000, beatSize := .b8, burst := 7, pos := 0 }
  { s with engine := { s.engine with jobs := [j] }, mport := { s.mport with outstanding := [o] } }

/-- A merge job of bank 0 of window 0, its source the pattern. -/
def patternJob : Job :=
  { window := 0, dest := 0, source := none, pending := [0, 1], filled := 0, phase := .writing, aborted := false }

/-- The issue that `awaiting` leaves outstanding. -/
def issueOf (s : State) : Issue :=
  s.mport.outstanding.headD
    { owner := 0, ref := .entry 0, window := none, kind := .read, addr := 0, beatSize := .b1, burst := 0, pos := 0 }

/-- The oldest entry of a port. -/
def entryOf (s : State) (p : PortId) : Entry := (s.port p).entries.headD (entry (txn .read 0 0))

/-- A management request. -/
def req (window field index value : Nat) : LinkReq :=
  ⟨BitVec.ofNat 8 window, BitVec.ofNat 8 field, BitVec.ofNat 8 index, BitVec.ofNat 32 value⟩

/-! ### Checks that stand for the situations of Safety.lean -/

/-- The port dispatches the entry. -/
def dispatchCheck (s : State) (p : PortId) (e : Entry) : Bool :=
  s.rstn && (s.port p).entries.all (fun x => decide (x.state ≠ .held))
    && decide ((s.port p).entries.find? Entry.isWaiting = some e)

/-- The transaction touches no shadow range. -/
def clearCheck (s : State) (t : Txn) : Bool :=
  (List.finRange 16).all fun w => decide ((s.win w).life = .off) ||
    (List.finRange 8).all fun k => decide (k.val = 0) || decide ((s.cfg w).bankCount ≤ k.val) || !touchesRange t (s.cfg w) k.val

/-- The transaction lies in the window. -/
def liesCheck (s : State) (t : Txn) (w : WinId) : Bool :=
  !malformed t && clearCheck s t && withinWindow t (s.cfg w) && decide ((s.win w).life ≠ .off)
    && (List.finRange 16).all fun x => decide (x = w) || decide ((s.win x).life = .off) || !touchesRange t (s.cfg x) 0

theorem dispatches_of_check {s : State} {p : PortId} {e : Entry} (h : dispatchCheck s p e = true) : s.Dispatches p e := by
  simp only [dispatchCheck, Bool.and_eq_true, List.all_eq_true, decide_eq_true_eq] at h
  exact ⟨h.1.1, h.1.2, h.2⟩

theorem clear_of_check {s : State} {t : Txn} (h : clearCheck s t = true) : s.ClearOfShadows t := by
  intro w k hl h1 h2
  simp only [clearCheck, List.all_eq_true, List.mem_finRange, Bool.or_eq_true, decide_eq_true_eq, Bool.not_eq_true',
    true_implies] at h
  rcases h w with h | h
  · exact absurd h hl
  · rcases h k with (h | h) | h
    · omega
    · omega
    · exact h

theorem liesIn_of_check {s : State} {t : Txn} {w : WinId} (h : liesCheck s t w = true) : s.LiesIn t w := by
  simp only [liesCheck, Bool.and_eq_true, Bool.not_eq_true', List.all_eq_true, List.mem_finRange, Bool.or_eq_true,
    decide_eq_true_eq, true_implies] at h
  obtain ⟨⟨⟨⟨h1, h2⟩, h3⟩, h4⟩, h5⟩ := h
  refine ⟨h1, clear_of_check h2, h3, h4, fun x hx hl => ?_⟩
  rcases h5 x with (h | h) | h
  · exact absurd h hx
  · exact absurd h hl
  · exact h

/-- The port dispatches the entry to the ACTIVE window as its producer. -/
def producerCheck (s : State) (p : PortId) (e : Entry) (w : WinId) : Bool :=
  dispatchCheck s p e && liesCheck s e.txn w && decide ((s.win w).life = .active) && decide ((s.cfg w).producer = p)

/-- The port dispatches the entry to the ACTIVE window as a consumer. -/
def consumerCheck (s : State) (p : PortId) (e : Entry) (w : WinId) : Bool :=
  dispatchCheck s p e && liesCheck s e.txn w && decide ((s.win w).life = .active) && hasPort (s.cfg w).consumers p
    && decide ((s.cfg w).producer ≠ p)

theorem producer_of_check {s : State} {p : PortId} {e : Entry} {w : WinId} (h : producerCheck s p e w = true) :
    s.ProducerDispatch p e w := by
  simp only [producerCheck, Bool.and_eq_true, decide_eq_true_eq] at h
  exact ⟨dispatches_of_check h.1.1.1, liesIn_of_check h.1.1.2, h.1.2, h.2⟩

theorem consumer_of_check {s : State} {p : PortId} {e : Entry} {w : WinId} (h : consumerCheck s p e w = true) :
    s.ConsumerDispatch p e w := by
  simp only [consumerCheck, Bool.and_eq_true, decide_eq_true_eq] at h
  exact ⟨dispatches_of_check h.1.1.1.1, liesIn_of_check h.1.1.1.2, h.1.1.2, h.1.2, h.2⟩

/-- The bank is the lowest-index FREE one. -/
def lowestCheck (s : State) (w : WinId) (b : BankId) : Bool :=
  decide (b.val < (s.cfg w).bankCount) && decide ((s.bank w b).state = .free) && (s.recordOf w b).isSome
    && (List.finRange 8).all fun a => decide (b ≤ a) || decide ((s.bank w a).state ≠ .free)

/-- The bank is the one CURRENT bank. -/
def currentCheck (s : State) (w : WinId) (b : BankId) : Bool :=
  decide (b.val < (s.cfg w).bankCount) && decide ((s.bank w b).state = .current) && (s.recordOf w b).isSome
    && (List.finRange 8).all fun a => decide (a = b) || decide ((s.bank w a).state ≠ .current)

theorem lowest_of_check {s : State} {w : WinId} {b : BankId} (h : lowestCheck s w b = true) : s.LowestFree w b := by
  simp only [lowestCheck, Bool.and_eq_true, List.all_eq_true, List.mem_finRange, Bool.or_eq_true, decide_eq_true_eq,
    true_implies] at h
  refine ⟨h.1.1.1, h.1.1.2, fun a ha => ?_, h.1.2⟩
  rcases h.2 a with h | h
  · exact absurd ha (not_lt.mpr h)
  · exact h

theorem current_of_check {s : State} {w : WinId} {b : BankId} (h : currentCheck s w b = true) : s.IsCurrent w b := by
  simp only [currentCheck, Bool.and_eq_true, List.all_eq_true, List.mem_finRange, Bool.or_eq_true, decide_eq_true_eq,
    true_implies] at h
  refine ⟨h.1.1.1, h.1.1.2, fun a ha => ?_, h.1.2⟩
  rcases h.2 a with h | h
  · exact h
  · exact absurd ha h

/-- The next completion is that of the last part of the port's oldest entry. -/
def lastCheck (s : State) (p : PortId) : Bool :=
  let o := issueOf s
  s.rstn && decide (s.mport.outstanding.head? = some o) && decide (o.owner = requesterOf p)
    && decide ((s.port p).entries.find? (Entry.isRef o.ref) = some (entryOf s p)) && decide ((entryOf s p).parts = 1)
    && decide (o.kind = (entryOf s p).txn.kind)

theorem last_of_check {s : State} {p : PortId} (h : lastCheck s p = true) : s.LastPart p (issueOf s) (entryOf s p) := by
  simp only [lastCheck, Bool.and_eq_true, decide_eq_true_eq] at h
  exact ⟨h.1.1.1.1.1, h.1.1.1.1.2, h.1.1.1.2, h.1.1.2, h.1.2, h.2⟩

/-! ### WellFormed refuses an ill-formed term for each check -/

/-- 0.5: a READ carries no byte enables, and a WRITE enables and carries nothing beyond its span. -/
theorem test_wellFormed_accept :
    (Instr.accept 0 { txn .read 0x1000 0 with wen := 1 }).wellFormed = false ∧
    (Instr.accept 0 { txn .read 0x1000 0 with wdata := 1 }).wellFormed = false ∧
    (Instr.accept 0 { txn .write 0x1000 0 with wen := 1#128 <<< 8 }).wellFormed = false ∧
    (Instr.accept 0 { txn .write 0x1000 0 with wdata := 1#1024 <<< 64 }).wellFormed = false ∧
    (Instr.accept 0 (txn .write 0x1000 0)).wellFormed = true := by
  decide +kernel

/-- R178: no frame error with 0 or 64 clocks. R180: no undefined opcode that 11.3 lists. -/
theorem test_wellFormed_link :
    (Instr.frameError []).wellFormed = false ∧ (Instr.frameError (List.replicate 64 true)).wellFormed = false ∧
    (Instr.frameError (List.replicate 65 true)).wellFormed = true ∧
    (Instr.undefinedOpcode 0x52 (req 0 0 0 0)).wellFormed = false ∧
    (Instr.undefinedOpcode 0x53 (req 0 0 0 0)).wellFormed = true := by
  decide +kernel

/-! ### Request words, written out from R177 and 11.3 -/

/-- Bytes 10 05 02 12 00 00 00 90: STAGE WRITE of window 5, BASE, INDEX 0x12 and VALUE 0x90000000. -/
theorem test_decode_stageWrite :
    decodeTableWord 64 0x9000000012020510 = some (.stageWrite (req 5 2 0x12 0x90000000)) := by decide +kernel

/-- Bytes 20 05: ENABLE of window 5. Bytes 24: SESSION CLEAR. -/
theorem test_decode_lifecycle :
    decodeTableWord 64 0x0520 = some (.enable (req 5 0 0 0)) ∧ decodeTableWord 64 0x24 = some (.sessionClear (req 0 0 0 0)) := by
  decide +kernel

/-- Bytes 31 03 20 01: BANK READ of window 3, COVER page 0, bank 1. Bytes 41 00 01: FAULT POP, page 1. Bytes 51 00 00 00 FA: PRESCALE
250. -/
theorem test_decode_reads :
    decodeTableWord 64 0x01200331 = some (.bankRead (req 3 0x20 1 0)) ∧
    decodeTableWord 64 0x010041 = some (.faultPop (req 0 1 0 0)) ∧
    decodeTableWord 64 0xFA00000051 = some (.prescale (req 0 0 0 250)) := by
  decide +kernel

/-- 0x12 is no opcode of 11.3; a row of the table has no bits, so no other length spells a command. -/
theorem test_decode_undefined :
    decodeTableWord 64 0x0712 = some (.undefinedOpcode 0x12 (req 7 0 0 0)) ∧ decodeTableWord 32 0x20 = none := by
  decide +kernel

/-! ### Values the specification gives -/

/-- R11: 65535 is followed by 1. R168: OVERRUN stops at 255. R98: the fill length is the highest covered granule plus one, 1 when none
is covered. -/
theorem test_counts :
    nextSeq 65535 = 1 ∧ nextSeq 1 = 2 ∧ satSucc 255 = 255 ∧ satSucc 254 = 255 ∧ fillLength [] = 1 ∧ fillLength [0, 2] = 3 := by
  decide

/-- R129: a start address off its beat size, and a span across a 4 KiB boundary, are malformed; a span up to the boundary is not. -/
theorem test_malformed :
    malformed (txn .read 0x1004 0) = true ∧ malformed (txn .read 0x1FC8 7) = true ∧ malformed (txn .read 0x1FC0 7) = false := by
  decide +kernel

/-- R32: a write of offsets 0 to 15 is overlay-only, one byte more is not. R31: AT_END needs the window's last byte stored. -/
theorem test_overlay_and_trigger :
    overlayOnly snapCfg (txn .write 0x1000 1) = true ∧ overlayOnly snapCfg (txn .write 0x1000 2) = false ∧
    isTrigger snapCfg (txn .write 0x1040 7) = true ∧ isTrigger snapCfg (txn .write 0x1040 6) = false ∧
    isTrigger snapCfg { txn .write 0x1040 7 with wen := BitVec.ofNat 128 (2 ^ 63 - 1) } = false := by
  decide +kernel

/-- R27, R28, R31, R32: an overlay-only trigger is steered into the bank and clears LASTREFUSED; an overlay-only write that is not the
trigger has no further effect. -/
theorem test_overlay_lastrefused :
    (let s := (withBank ready 0 0 .filling).modProd 0 fun r => { r with lastrefused := true }
     let head := recfg s 0 fun c => { c with trigger := .atHead }
     ((head.overlayWrite 0 0 (txn .write 0x1000 1)).1.win 0).prod.lastrefused = false ∧
      ((s.overlayWrite 0 0 (txn .write 0x1000 1)).1.win 0).prod.lastrefused = true) := by
  decide +kernel

/-- R144: maximal runs of beats of one bank. -/
theorem test_runs :
    runsFrom 0 [.overlay, .bank 0, .bank 0, .pattern, .bank 0, .bank 1] = [⟨1, 2, 0⟩, ⟨4, 1, 0⟩, ⟨5, 1, 1⟩] := by decide

/-- R139: a 4-byte beat at an address 4 modulo 8 lies in the upper lanes. -/
theorem test_lanes :
    responseBeat { txn .read 0x1004 0 with beatSize := .b4 } [0x11, 0x22, 0x33, 0x44] 0 = 0x4433221100000000 := by
  decide +kernel

/-- R10, R18: the first window enabled takes records 0 to 2, the second records 3 and 4. -/
theorem test_enable_takes_lowest :
    ready.recordOf 0 0 = some 0 ∧ ready.recordOf 0 2 = some 2 ∧ ready.recordOf 1 0 = some 3 ∧ ready.recordOf 1 1 = some 4 ∧
    (ready.bank 1 1).pbase = 0xB000 := by
  decide +kernel

/-! ### Witnesses: the queue of commands, time, reset, acceptance -/

theorem witness_StepRunsFrontCommand : { State.reset with pending := [.grant] }.pending = .grant :: [] := rfl

/-- A statement about every deadline, from one for each kind. -/
theorem deadline_cases {P : Deadline → Prop} (o : ∀ w, P (.openOf w)) (c : ∀ w p, P (.claimOf w p)) (h : ∀ p, P (.holdOf p)) :
    ∀ d, P d
  | .openOf w => o w
  | .claimOf w p => c w p
  | .holdOf p => h p

/-- A write of I0 held by window 0 until stamp 0x2E8, at stamp 0x2E7 (the example of 9.5), with a queue of commands. -/
def holding (q : List Instr) : State :=
  { ready.modEntries 0 fun _ => [(entry (txn .write 0x1000 7)).hold 0 0x2E8] with
    time := { ready.time with stamp := 0x2E7 }, pending := q }

/-- No deadline due; one due and left to its command; one alone due; an idle cycle below P and at P. -/
theorem witness_StampIncrements :
    (ready.rstn = true ∧ ∀ d, ¬ ready.counted.Due d) ∧
    ((holding [.holdDeadline 0]).counted.Due (.holdOf 0) ∧ .holdOf 0 ∈ deadlinesNamed (holding [.holdDeadline 0]).pending) ∧
    (let s := holding [.timeRead (req 0 0 0 0), .holdDeadline 0]
     s.rstn = true ∧ s.HoldsNamed ∧ s.counted.Due (.holdOf 0) ∧ .holdOf 0 ∉ deadlinesNamed s.pending ∧
      ∀ x, x ≠ .holdOf 0 → ¬ s.counted.Due x) ∧
    (State.reset.pending = [] ∧ State.reset.time.phase + 1 < State.reset.time.pNow) ∧
    (let s := { State.reset with time := { State.reset.time with phase := 24 } }
     s.pending = [] ∧ s.rstn = true ∧ s.time.phase + 1 = s.time.pNow) := by
  refine ⟨⟨?_, deadline_cases ?_ ?_ ?_⟩, ⟨?_, ?_⟩, ⟨?_, ?_, ?_, ?_, deadline_cases ?_ ?_ ?_⟩, ?_, ?_⟩ <;>
    first | decide +kernel | (simp only [State.Due, State.HoldsNamed]; decide +kernel)

/-- R159, 9.5: in the event of the increment to 0x2E8 the held write is REFUSED, and the record carries that stamp; while its own
command comes next in the queue it is left to it. -/
theorem test_increment_takes_due :
    (let s := (holding []).increment
     (s.port 0).entries.map Entry.code = [some .refused] ∧ s.faults.queue = [⟨.holdExpired, some 0, some 0, some 0, 0x2E8⟩]) ∧
    ((holding [.holdDeadline 0]).increment.port 0).entries = ((holding []).port 0).entries := by
  decide +kernel

/-- RSTn low; RSTn high with CSn not yet risen since. -/
theorem witness_ResetCommands :
    ({ State.reset with rstn := false }.rstn = false ∧ Instr.grant ≠ .rstnAssert ∧
      ∀ csnLow, Instr.grant ≠ .rstnRelease csnLow) ∧
    (let s := { State.reset with link := Link.released true }
     s.rstn = true ∧ s.link.receiver.awaitRise = true ∧ opcodeOf (.enable (req 0 0 0 0)) ≠ none) := by
  decide

/-- Acceptance with 7 entries and with 8; a HELD entry; no WAITING entry. -/
theorem witness_AcceptAppends :
    (let s := ready.modEntries 0 fun _ => List.replicate 7 (entry (txn .read 0 0))
     s.rstn = true ∧ (s.port 0).entries.length < 8) ∧
    (let s := ready.modEntries 0 fun _ => List.replicate 8 (entry (txn .read 0 0))
     8 ≤ (s.port 0).entries.length) ∧
    (let e := { entry (txn .read 0 0) with state := .held }
     e ∈ ((ready.modEntries 0 fun _ => [e]).port 0).entries ∧ e.state = .held) ∧
    (∀ e ∈ (ready.port 0).entries, e.state ≠ .waiting) := by
  decide +kernel

/-- The codes at the boundary of the two enables, an enable off, a queue of 15 and of 16 records. -/
theorem witness_FaultOffer :
    (FaultKind.foreign.code ≤ 10 ∧ 11 ≤ FaultKind.malformed.code) ∧
    (let s := { ready with faults := { ready.faults with mask := 0 } }
     s.faultEnabled .malformed none = false) ∧
    (let r : FaultRec := ⟨.straddle, none, none, none, 0⟩
     let s := { ready with faults := { ready.faults with queue := List.replicate 15 r } }
     s.faultEnabled .foreign (some 0) = true ∧ s.faults.queue.length < 16) ∧
    (let r : FaultRec := ⟨.straddle, none, none, none, 0⟩
     let s := { ready with faults := { ready.faults with queue := List.replicate 16 r } }
     s.faultEnabled .foreign (some 0) = true ∧ 16 ≤ s.faults.queue.length) := by
  decide +kernel

/-! ### Witnesses: classification -/

/-- A start address off its beat size; the first byte of a shadow range; a span across the end of window 0. -/
theorem witness_PortLevelRefusals :
    (let t := txn .read 0x1004 0
     (offering ready 0 t).Dispatches 0 (entry t) ∧ malformed t = true) ∧
    (let t := txn .read 0x2000 0
     (offering ready 0 t).Dispatches 0 (entry t) ∧ malformed t = false ∧
      ((offering ready 0 t).win 0).life ≠ .off ∧ 1 < ((offering ready 0 t).cfg 0).bankCount ∧
      touchesRange t ((offering ready 0 t).cfg 0) 1 = true) ∧
    (let t := txn .read 0x1078 1
     (offering ready 0 t).Dispatches 0 (entry t) ∧ malformed t = false ∧ (offering ready 0 t).ClearOfShadows t ∧
      ((offering ready 0 t).win 0).life ≠ .off ∧ touchesRange t ((offering ready 0 t).cfg 0) 0 = true ∧
      withinWindow t ((offering ready 0 t).cfg 0) = false) := by
  refine ⟨⟨dispatches_of_check ?_, ?_⟩, ⟨dispatches_of_check ?_, ?_⟩, dispatches_of_check ?_, ?_, clear_of_check ?_, ?_⟩ <;>
    decide +kernel

theorem witness_WindowLevelRefusals :
    (let s := offering (ready.modWin 0 fun x => { x with life := .suspended }) 3 (txn .read 0x1000 15)
     s.Dispatches 3 (entry (txn .read 0x1000 15)) ∧ s.LiesIn (txn .read 0x1000 15) 0 ∧ (s.win 0).life ≠ .active) ∧
    (let s := offering ready 3 (txn .read 0x1000 15)
     s.Dispatches 3 (entry (txn .read 0x1000 15)) ∧ s.LiesIn (txn .read 0x1000 15) 0 ∧ (s.win 0).life = .active ∧
      (s.cfg 0).producer ≠ 3 ∧ hasPort (s.cfg 0).consumers 3 = false) := by
  refine ⟨⟨dispatches_of_check ?_, liesIn_of_check ?_, ?_⟩, dispatches_of_check ?_, liesIn_of_check ?_, ?_⟩ <;> decide +kernel

theorem witness_PassThroughForwarded :
    (let t := txn .write 0x1080 15
     (offering ready 2 t).Dispatches 2 (entry t) ∧ malformed t = false ∧ (offering ready 2 t).ClearOfShadows t ∧
      ∀ w : WinId, ((offering ready 2 t).win w).life ≠ .off → touchesRange t ((offering ready 2 t).cfg w) 0 = false) := by
  refine ⟨dispatches_of_check ?_, ?_, clear_of_check ?_, ?_⟩ <;> decide +kernel

/-! ### Witnesses: the producer's transactions -/

/-- A write to a FILLING bank, and one that opens a session. -/
theorem witness_ProducerWriteSteered :
    (let t := txn .write 0x1000 7
     (let s := offering (withBank ready 0 0 .filling) 0 t
      s.ProducerDispatch 0 (entry t) 0 ∧ t.kind = .write ∧ overlayOnly (s.cfg 0) t = false ∧
       (s.win 0).prod.bank = some 0 ∧ (s.bank 0 0).state = .filling ∧ (s.recordOf 0 0).isSome = true) ∧
     (let s := offering ready 0 t
      s.ProducerDispatch 0 (entry t) 0 ∧ t.kind = .write ∧ (s.win 0).prod.bank = none ∧ s.LowestFree 0 0)) := by
  refine ⟨⟨producer_of_check ?_, ?_⟩, producer_of_check ?_, ?_, ?_, lowest_of_check ?_⟩ <;> decide +kernel

/-- The part of a write, and R144's read of offsets 0 to 127 with OVERLAY on, whose one part starts at offset 16. -/
theorem witness_parts :
    snapCfg.base.toNat ≤ (txn .write 0x1010 7).addr.toNat ∧
    (writePart 0 0 snapCfg 1 5 (txn .write 0x1010 7)).offset = 0x10 ∧
    snapCfg.overlay = true ∧ (txn .read 0x1000 15).addr = snapCfg.base ∧
    (readParts 1 0 snapCfg 5 (txn .read 0x1000 15) (snapshotClaimSource snapCfg 1)).map
        (fun q => (q.bank, q.offset, q.burst)) = [(some 1, 16, 13)] ∧
    runsFrom 0 (beatSources snapCfg (txn .read 0x1000 15) (snapshotClaimSource snapCfg 1)) = [⟨2, 14, 1⟩] := by
  decide +kernel

/-- Overlay-only writes: opening a session, without and with the trigger; in a FILLING bank, without the trigger and as the trigger
with and without writes in flight. -/
theorem witness_OverlayWriteAnswered :
    (let t := txn .write 0x1000 1
     let head := recfg ready 0 fun c => { c with trigger := .atHead }
     (let s := offering ready 0 t
      s.ProducerDispatch 0 (entry t) 0 ∧ s.LowestFree 0 0 ∧ t.kind = .write ∧ overlayOnly (s.cfg 0) t = true ∧
       (s.win 0).prod.bank = none ∧ isTrigger (s.cfg 0) t = false) ∧
     (let s := offering head 0 t
      s.ProducerDispatch 0 (entry t) 0 ∧ s.LowestFree 0 0 ∧ overlayOnly (s.cfg 0) t = true ∧
       (s.win 0).prod.bank = none ∧ isTrigger (s.cfg 0) t = true ∧ (s.bank 0 0).winflight = 0) ∧
     (let s := offering (withBank ready 0 0 .filling) 0 t
      s.ProducerDispatch 0 (entry t) 0 ∧ (s.win 0).prod.bank = some 0 ∧ (s.bank 0 0).state = .filling ∧
       (s.recordOf 0 0).isSome = true ∧ isTrigger (s.cfg 0) t = false) ∧
     (let s := offering ((withBank head 0 0 .filling).modBank 0 0 fun r => { r with winflight := 1 }) 0 t
      s.ProducerDispatch 0 (entry t) 0 ∧ (s.bank 0 0).state = .filling ∧ isTrigger (s.cfg 0) t = true ∧
       (s.bank 0 0).winflight ≠ 0) ∧
     (let s := offering (withBank head 0 0 .filling) 0 t
      s.ProducerDispatch 0 (entry t) 0 ∧ (s.bank 0 0).state = .filling ∧ isTrigger (s.cfg 0) t = true ∧
       (s.bank 0 0).winflight = 0)) := by
  refine ⟨⟨producer_of_check ?_, lowest_of_check ?_, ?_⟩, ⟨producer_of_check ?_, lowest_of_check ?_, ?_⟩,
    ⟨producer_of_check ?_, ?_⟩, ⟨producer_of_check ?_, ?_⟩, producer_of_check ?_, ?_⟩ <;> decide +kernel

/-- Behind each closing bank, and behind a full queue under HOLD. -/
theorem witness_ProducerWriteHeld :
    (∀ x ∈ [BankState.committing, .merging, .expiring],
      let t := txn .write 0x1000 7
      let s := offering (withBank ready 0 0 x) 0 t
      producerCheck s 0 (entry t) 0 = true ∧ (s.win 0).prod.bank = some 0 ∧ (s.bank 0 0).state = x) ∧
    (let t := txn .write 0xA000 7
     let s := offering (withBank (withBank (recfg ready 1 fun c => { c with full := .hold }) 1 0 .queued) 1 1 .queued) 0 t
     s.ProducerDispatch 0 (entry t) 1 ∧ (s.cfg 1).mode = .queue ∧ (s.win 1).prod.bank = none ∧ s.NoFree 1 ∧
      (s.cfg 1).full = .hold) := by
  refine ⟨?_, producer_of_check ?_, ?_, ?_, ?_, ?_⟩
  · decide +kernel
  · decide +kernel
  · decide +kernel
  · decide +kernel
  · unfold State.NoFree; decide +kernel
  · decide +kernel

theorem witness_QueueFullRefused :
    (let t := txn .write 0xA000 7
     let s := offering (withBank (withBank ready 1 0 .queued) 1 1 .queued) 0 t
     s.ProducerDispatch 0 (entry t) 1 ∧ t.kind = .write ∧ s.NoFree 1 ∧ (s.cfg 1).mode = .queue ∧
      (s.win 1).prod.bank = none ∧ (s.cfg 1).full = .refuse) := by
  refine ⟨producer_of_check ?_, ?_, ?_, ?_⟩
  · decide +kernel
  · decide +kernel
  · unfold State.NoFree; decide +kernel
  · decide +kernel

/-- A producer read; an overlay byte and the first byte after them, covered and not, with and without a CURRENT bank; a QUEUE window
with and without a producer bank. -/
theorem witness_ProducerReadServed :
    (let t := txn .read 0x1000 15
     (offering ready 0 t).ProducerDispatch 0 (entry t) 0 ∧ t.kind = .read) ∧
    (isOverlayByte (ready.cfg 0) 15 = true ∧ isOverlayByte (ready.cfg 0) 16 = false ∧ (ready.cfg 0).mode = .snapshot) ∧
    (let s := (withBank ready 0 0 .filling).modBank 0 0 fun r => { r with cover := [0] }
     (s.win 0).prod.bank = some 0 ∧ 63 / 64 ∈ (s.bank 0 0).cover ∧ 64 / 64 ∉ (s.bank 0 0).cover) ∧
    (published.win 0).prod.bank = none ∧ published.IsCurrent 0 0 ∧ ready.NoCurrent 0 ∧
    (isOverlayByte (ready.cfg 1) 0 = false ∧ (ready.cfg 1).mode = .queue ∧ (ready.win 1).prod.bank = none ∧
      ((withBank ready 1 0 .filling).win 1).prod.bank = some 0) := by
  refine ⟨⟨producer_of_check ?_, ?_⟩, ?_, ?_, ?_, current_of_check ?_, ?_, ?_⟩
  all_goals first
    | (unfold State.NoCurrent; decide +kernel)
    | decide +kernel

/-- Each mode; no producer bank, and one in each of its states; a CURRENT bank and none. -/
theorem witness_DescriptorLayouts :
    (ready.cfg 0).mode = .snapshot ∧ (ready.cfg 1).mode = .queue ∧ (ready.win 0).prod.bank = none ∧
    (∀ x ∈ [BankState.filling, .committing, .merging, .expiring],
      ((withBank ready 0 0 x).win 0).prod.bank = some 0 ∧ ((withBank ready 0 0 x).bank 0 0).state = x) ∧
    ready.NoCurrent 0 ∧ published.IsCurrent 0 0 := by
  refine ⟨?_, ?_, ?_, ?_, ?_, current_of_check ?_⟩
  all_goals first
    | (unfold State.NoCurrent; decide +kernel)
    | decide +kernel

/-! ### Witnesses: the consumer's transactions -/

/-- A read that opens a claim, with EXPIRED off, and with it on at granule 0; one on the claimed bank, and one not at granule 0 on a
claimed HELD bank. -/
theorem witness_SnapshotClaimReads :
    (let t := txn .read 0x1000 15
     let u := txn .read 0x1040 7
     (let s := offering published 1 u
      s.ConsumerDispatch 1 (entry u) 0 ∧ s.IsCurrent 0 0 ∧ (s.cfg 0).mode = .snapshot ∧ u.kind = .read ∧
       (s.claim 0 1).bank = none ∧ (s.claim 0 1).expired = false) ∧
     (let s := offering (withClaim published 0 fun k => { k with expired := true }) 1 t
      s.ConsumerDispatch 1 (entry t) 0 ∧ s.IsCurrent 0 0 ∧ (s.claim 0 1).bank = none ∧
       touchesGranuleZero (s.cfg 0) t = true) ∧
     (let s := offering (withClaim published 0 fun k => { k with bank := some 0 }) 1 t
      s.ConsumerDispatch 1 (entry t) 0 ∧ (s.claim 0 1).bank = some 0 ∧ (s.claim 0 1).closing = false ∧
       (s.claim 0 1).deferred = false ∧ (s.bank 0 0).state ≠ .held) ∧
     (let s := offering superseded 1 u
      s.ConsumerDispatch 1 (entry u) 0 ∧ (s.claim 0 1).bank = some 0 ∧ touchesGranuleZero (s.cfg 0) u = false)) := by
  refine ⟨⟨consumer_of_check ?_, current_of_check ?_, ?_⟩, ⟨consumer_of_check ?_, current_of_check ?_, ?_⟩,
    ⟨consumer_of_check ?_, ?_⟩, consumer_of_check ?_, ?_⟩ <;> decide +kernel

theorem witness_RestartClaimsCurrent :
    (let t := txn .read 0x1038 8
     let s := offering superseded 1 t
     s.ConsumerDispatch 1 (entry t) 0 ∧ s.IsCurrent 0 1 ∧ (s.cfg 0).mode = .snapshot ∧ t.kind = .read ∧
      (s.claim 0 1).bank = some 0 ∧ (s.bank 0 0).state = .held ∧ (s.recordOf 0 0).isSome = true ∧
      (s.claim 0 1).closing = false ∧ (s.claim 0 1).deferred = false ∧ (s.claim 0 1).reads = 0 ∧
      touchesGranuleZero (s.cfg 0) t = true) := by
  refine ⟨consumer_of_check ?_, current_of_check ?_, ?_⟩ <;> decide +kernel

/-- DEFERRED and not CLOSING; CLOSING; a restart with a read in flight; EXPIRED at granule 1. -/
theorem witness_ConsumerReadRefusedOrHeld :
    (let t := txn .read 0x1000 7
     let u := txn .read 0x1040 7
     let claimed := withClaim published 0 fun k => { k with bank := some 0 }
     (let s := offering (withClaim claimed 0 fun k => { k with deferred := true }) 1 t
      s.ConsumerDispatch 1 (entry t) 0 ∧ t.kind = .read ∧ (s.claim 0 1).bank = some 0 ∧ (s.claim 0 1).deferred = true ∧
       (s.claim 0 1).closing = false) ∧
     (let s := offering (withClaim claimed 0 fun k => { k with closing := true }) 1 t
      s.ConsumerDispatch 1 (entry t) 0 ∧ (s.claim 0 1).closing = true) ∧
     (let s := offering (withClaim superseded 0 fun k => { k with reads := 1 }) 1 t
      s.ConsumerDispatch 1 (entry t) 0 ∧ (s.claim 0 1).bank = some 0 ∧ (s.bank 0 0).state = .held ∧
       (s.claim 0 1).closing = false ∧ (s.claim 0 1).deferred = false ∧ (s.claim 0 1).reads ≠ 0 ∧
       touchesGranuleZero (s.cfg 0) t = true) ∧
     (let s := offering (withClaim published 0 fun k => { k with expired := true }) 1 u
      s.ConsumerDispatch 1 (entry u) 0 ∧ s.IsCurrent 0 0 ∧ (s.claim 0 1).bank = none ∧ (s.claim 0 1).expired = true ∧
       touchesGranuleZero (s.cfg 0) u = false)) := by
  refine ⟨⟨consumer_of_check ?_, ?_⟩, ⟨consumer_of_check ?_, ?_⟩, ⟨consumer_of_check ?_, ?_⟩, consumer_of_check ?_,
    current_of_check ?_, ?_⟩ <;> decide +kernel

/-- Under PATTERN in each mode; under REFUSE, beyond and wholly within the overlay bytes. -/
theorem witness_EmptyReadAnswered :
    (let t := txn .read 0x1000 2
     (let s := offering ready 1 t
      s.ConsumerDispatch 1 (entry t) 0 ∧ s.NoCurrent 0 ∧ (s.claim 0 1).bank = none ∧ (s.cfg 0).mode = .snapshot ∧
       (s.cfg 0).empty = .pattern) ∧
     (let q := txn .read 0xA000 15
      let s := offering ready 1 q
      s.ConsumerDispatch 1 (entry q) 1 ∧ (s.claim 1 1).bank = none ∧ (s.cfg 1).mode = .queue ∧ (s.win 1).order = []) ∧
     (let s := offering (recfg ready 0 fun c => { c with empty := .refuse }) 1 t
      s.ConsumerDispatch 1 (entry t) 0 ∧ (s.cfg 0).empty = .refuse ∧ overlayOnly (s.cfg 0) t = false) ∧
     overlayOnly (ready.cfg 0) (txn .read 0x1000 1) = true) := by
  refine ⟨⟨consumer_of_check ?_, ?_, ?_⟩, ⟨consumer_of_check ?_, ?_⟩, ⟨consumer_of_check ?_, ?_⟩, ?_⟩
  all_goals first
    | (unfold State.NoCurrent; decide +kernel)
    | decide +kernel

/-- With and without a claim, a read of the message with a memory part, and a closing read beyond it without one. -/
theorem witness_QueueClaimReads :
    (let t := txn .read 0xA000 7
     let u := txn .read 0xA040 7
     let parts := fun (x : Txn) => readParts 1 1 queueCfg 0 x (queueClaimSource queueCfg 0 1)
     let closes := fun (x : Txn) => spanHas queueCfg x (1 * 64 - 1) || spanHas queueCfg x queueCfg.lastOffset
     (parts t ≠ [] ∧ closes t = true ∧ parts u = [] ∧ closes u = true) ∧
     (∀ s ∈ [queued, delivering], (s.cfg 1).mode = .queue ∧ s.cfg 1 = queueCfg ∧ (s.win 1).order = [0] ∧
       (s.bank 1 0).length = 1 ∧ (s.recordOf 1 0).isSome = true ∧ (s.claim 1 1).closing = false ∧
       (s.claim 1 1).deferred = false ∧ (s.claim 1 1).reads = 0 ∧
       consumerCheck (offering s 1 t) 1 (entry t) 1 = true ∧ consumerCheck (offering s 1 u) 1 (entry u) 1 = true) ∧
     (queued.claim 1 1).bank = none ∧ (delivering.claim 1 1).bank = some 0) := by
  decide +kernel

/-- Beyond the overlay bytes; without a claim; DEFERRED; CLOSING; with and without a read in flight. -/
theorem witness_ConsumerWriteAnswered :
    (let t := txn .write 0x1000 1
     let claimed := withClaim published 0 fun k => { k with bank := some 0 }
     overlayOnly (ready.cfg 0) (txn .write 0x1000 2) = false ∧ overlayOnly (ready.cfg 0) t = true ∧
     (∀ f ∈ [fun k => k, fun k => { k with closing := true }, fun k => { k with reads := 1 },
         fun k => { k with deferred := true }, fun k => { k with bank := none }],
       consumerCheck (offering (withClaim claimed 0 f) 1 t) 1 (entry t) 0 = true) ∧
     (claimed.claim 0 1).bank = some 0 ∧ (claimed.claim 0 1).closing = false ∧ (claimed.claim 0 1).deferred = false ∧
     (claimed.claim 0 1).reads = 0) := by
  decide +kernel

theorem witness_ReleaseEndsClaim :
    ((superseded.claim 0 1).bank = some 0 ∧ (superseded.recordOf 0 0).isSome = true ∧ (superseded.cfg 0).mode = .snapshot) ∧
    ((delivering.claim 1 1).bank = some 0 ∧ (delivering.recordOf 1 0).isSome = true ∧ (delivering.cfg 1).mode = .queue ∧
      (delivering.win 1).order = 0 :: []) := by
  decide +kernel

/-! ### Witnesses: responses, grants, completions -/

theorem witness_ResponseReturned :
    (let e := (entry (txn .read 0x1000 0)).answer .okay [0, 0, 0, 0, 0, 0, 0, 0]
     let s := ready.modEntries 0 fun _ => [e]
     s.rstn = true ∧ (s.port 0).entries = e :: [] ∧ e.state = .answered ∧ e.code = some .okay) ∧
    (ready.port 0).entries = [] ∧
    ((offering ready 0 (txn .read 0x1000 0)).port 0).entries = entry (txn .read 0x1000 0) :: [] ∧
    (let x := { txn .read 0x1004 1 with beatSize := .b4 }
     x.addr.toNat + 1 * x.beatSize.bytes = 0x1008 ∧ 7 < 8) := by
  decide +kernel

/-- The requester examined last, with 31 entries outstanding; 32 outstanding; nothing queued. -/
theorem witness_GrantIssues :
    (let q := passPart 0 0 (txn .read 0x1080 0)
     let s := (awaiting ready 1 (txn .read 0x1080 0) none none false 1).handOver 0 [q]
     let full := fun n => { s with mport := { s.mport with outstanding := List.replicate n (issueOf s), pointer := 1 } }
     ((full 31).rstn = true ∧ (full 31).mport.outstanding.length < 32 ∧ (0 : Requester) = (full 31).mport.pointer + Fin.ofNat 5 4 ∧
      (∀ j, j < 4 → (full 31).mport.queues[(full 31).mport.pointer + Fin.ofNat 5 j] = []) ∧
      (full 31).mport.queues[(0 : Requester)] = q :: []) ∧
     32 ≤ (full 32).mport.outstanding.length ∧ ∀ r : Requester, ready.mport.queues[r] = []) := by
  decide +kernel

theorem witness_PartCompletes :
    (let s := awaiting ready 1 (txn .read 0x1080 0) none none false 1
     s.LastPart 1 (issueOf s) (entryOf s 1) ∧ (issueOf s).window = none) ∧
    (let s := awaiting ready 0 (txn .read 0x1000 7) (some 0) none false 2
     s.rstn = true ∧ s.mport.outstanding = issueOf s :: [] ∧ (issueOf s).owner = requesterOf 0 ∧
      (s.port 0).entries.find? (Entry.isRef (issueOf s).ref) = some (entryOf s 0) ∧ 1 < (entryOf s 0).parts) ∧
    ready.mport.outstanding = [] := by
  refine ⟨⟨last_of_check ?_, ?_⟩, ?_⟩ <;> decide +kernel

/-- A producer write of window 0 outstanding. -/
def writing (x : BankState) (n : Nat) (trigger : Bool) : State :=
  awaiting ((withBank ready 0 0 x).modBank 0 0 fun r => { r with winflight := n }) 0 (txn .write 0x1040 7) (some 0) (some 0) trigger 1

theorem writing_lastWrite (x : BankState) (n : Nat) (trigger : Bool) (h : lastCheck (writing x n trigger) 0 = true)
    (k : (entryOf (writing x n trigger) 0).txn.kind = .write ∧ (issueOf (writing x n trigger)).window = some 0 ∧
      (entryOf (writing x n trigger) 0).dest = some 0 ∧ (entryOf (writing x n trigger) 0).errored = false ∧
      ((writing x n trigger).recordOf 0 0).isSome = true) :
    (writing x n trigger).LastWrite 0 (issueOf (writing x n trigger)) (entryOf (writing x n trigger) 0) 0 0 :=
  ⟨last_of_check h, k.1, k.2.1, k.2.2.1, k.2.2.2.1, k.2.2.2.2⟩

/-- FILLING; EXPIRING with two writes in flight and with one; COMMITTING at the trigger's completion and at the last other one. -/
theorem witness_ProducerWriteCompletes :
    (let s := writing .filling 1 false
     s.LastWrite 0 (issueOf s) (entryOf s 0) 0 0 ∧ (s.win 0).life = .active ∧ (s.bank 0 0).state = .filling) ∧
    (let s := writing .expiring 2 false
     s.LastWrite 0 (issueOf s) (entryOf s 0) 0 0 ∧ (s.bank 0 0).state = .expiring ∧ 1 < (s.bank 0 0).winflight) ∧
    (let s := writing .expiring 1 false
     s.LastWrite 0 (issueOf s) (entryOf s 0) 0 0 ∧ (s.bank 0 0).state = .expiring ∧ (s.bank 0 0).winflight = 1) ∧
    (let s := writing .committing 2 true
     s.LastWrite 0 (issueOf s) (entryOf s 0) 0 0 ∧ (s.bank 0 0).state = .committing ∧ (entryOf s 0).trigger = true) ∧
    (let s := writing .committing 1 false
     s.LastWrite 0 (issueOf s) (entryOf s 0) 0 0 ∧ (s.bank 0 0).state = .committing ∧ (s.bank 0 0).winflight = 1) := by
  refine ⟨⟨writing_lastWrite _ _ _ ?_ ?_, ?_⟩, ⟨writing_lastWrite _ _ _ ?_ ?_, ?_⟩, ⟨writing_lastWrite _ _ _ ?_ ?_, ?_⟩,
    ⟨writing_lastWrite _ _ _ ?_ ?_, ?_⟩, writing_lastWrite _ _ _ ?_ ?_, ?_⟩ <;> decide +kernel

/-- POISON on and off; every granule covered; the last granule not covered, under each PARTIAL; a QUEUE window. -/
theorem witness_CommitDecisionTable :
    (let s := withBank ready 0 0 .committing
     let poisoned := s.modBank 0 0 fun r => { r with poison := true }
     let full := s.modBank 0 0 fun r => { r with cover := [0, 1] }
     let part := s.modBank 0 0 fun r => { r with cover := [0] }
     (s.cfg 0).mode = .snapshot ∧ (poisoned.bank 0 0).poison = true ∧ (full.bank 0 0).poison = false ∧
     (∀ g, g < (full.cfg 0).granuleCount → g ∈ (full.bank 0 0).cover) ∧
     (1 < (part.cfg 0).granuleCount ∧ 1 ∉ (part.bank 0 0).cover ∧ (part.cfg 0).partialPolicy = .merge) ∧
     ((recfg part 0 fun c => { c with partialPolicy := .discard }).cfg 0).partialPolicy = .discard ∧
     (s.cfg 1).mode = .queue ∧ (s.bank 1 0).poison = false) := by
  decide +kernel

theorem witness_Publication :
    (let s := withBank ready 0 0 .committing
     (s.recordOf 0 0).isSome = true ∧ (s.bank 0 0).state ≠ .current ∧ s.NoCurrent 0) ∧
    (let s := withBank published 0 1 .merging
     (s.recordOf 0 1).isSome = true ∧ (s.bank 0 1).state ≠ .current ∧ s.IsCurrent 0 0) := by
  refine ⟨⟨?_, ?_, ?_⟩, ?_, ?_, current_of_check ?_⟩
  all_goals first
    | (unfold State.NoCurrent; decide +kernel)
    | decide +kernel

theorem witness_DropEndsSession : ((withBank ready 0 0 .committing).recordOf 0 0).isSome = true := by decide +kernel

/-- No CURRENT bank and an empty job list; a CURRENT bank and another job. -/
theorem witness_MergeAppended :
    (let s := (withBank ready 0 0 .committing).modBank 0 0 fun r => { r with cover := [0] }
     (s.recordOf 0 0).isSome = true ∧ s.NoCurrent 0 ∧ s.engine.jobs = [] ∧
      1 :: [] = (List.range (s.cfg 0).granuleCount).filter (fun g => decide (g ∉ (s.bank 0 0).cover))) ∧
    (let s := { withBank published 0 1 .committing with engine := { ready.engine with jobs := [patternJob] } }
     (s.recordOf 0 1).isSome = true ∧ s.engine.jobs ≠ [] ∧ s.IsCurrent 0 0) := by
  refine ⟨⟨?_, ?_, ?_⟩, ?_, ?_, current_of_check ?_⟩
  all_goals first
    | (unfold State.NoCurrent; decide +kernel)
    | decide +kernel

theorem witness_QueueCommitAppends : ((withBank ready 1 0 .committing).recordOf 1 0).isSome = true := by decide +kernel

/-- A consumer's read and a producer's, in an ACTIVE and in a draining window. -/
theorem witness_ReadCompletes :
    (let s := awaiting published 0 (txn .read 0x1040 7) (some 0) none false 1
     s.LastRead 0 (issueOf s) (entryOf s 0) 0 ∧ (s.win 0).life = .active ∧ (s.cfg 0).producer = 0) ∧
    (let s := awaiting (withClaim published 0 fun k => { k with bank := some 0, reads := 1, closing := true }) 1
       (txn .read 0x1040 7) (some 0) none false 1
     s.LastRead 1 (issueOf s) (entryOf s 1) 0 ∧ (s.win 0).life = .active ∧ (s.cfg 0).producer ≠ 1) := by
  refine ⟨⟨⟨last_of_check ?_, ?_, ?_⟩, ?_⟩, ⟨last_of_check ?_, ?_, ?_⟩, ?_⟩ <;> decide +kernel

/-- A claim whose expiry is taken, in SNAPSHOT on a HELD bank and in QUEUE on the head. -/
theorem witness_claimExpiry :
    ((superseded.claim 0 1).bank = some 0 ∧ (superseded.cfg 0).mode = .snapshot ∧ (superseded.recordOf 0 0).isSome = true ∧
      (superseded.bank 0 0).state = .held) ∧
    ((delivering.claim 1 1).bank = some 0 ∧ (delivering.cfg 1).mode = .queue) := by
  decide +kernel

/-- R41: a publication and the release of a claim on the former CURRENT bank commute, the MISSED count of another consumer
included (log 22). Bank 0 is CURRENT with SEQ 1 and claimed by I1, I2 has not claimed it, and bank 1 is published. -/
theorem test_release_commutes_with_publication :
    let s := withClaim (withBank (recfg published 0 fun c => { c with consumers := 6 }) 0 1 .committing) 0
      fun k => { k with bank := some 0, lastseq := 1 }
    let u := s.modBank 0 0 fun r => { r with holders := 2, seq := 1 }
    (u.releaseClaim 0 1).publish 0 1 = (u.publish 0 1).releaseClaim 0 1 ∧
      (((u.releaseClaim 0 1).publish 0 1).claim 0 2).missed = 1 ∧
      (((u.releaseClaim 0 1).publish 0 1).bank 0 0).state = .free := by
  decide +kernel

theorem witness_DrainingCompletion :
    (let s := (writing .committing 1 true).modWin 0 fun x => { x with life := .retiring }
     (s.win 0).life.draining = true ∧ s.LastWrite 0 (issueOf s) (entryOf s 0) 0 0) ∧
    (∀ p ∈ [(0 : PortId), 1],
      let s := awaiting (published.modWin 0 fun x => { x with life := .suspending }) p (txn .read 0x1040 7) (some 0) none false 1
      (s.win 0).life.draining = true ∧ lastCheck s p = true ∧ (entryOf s p).txn.kind = .read ∧ (issueOf s).window = some 0) := by
  refine ⟨⟨?_, last_of_check ?_, ?_, ?_, ?_, ?_, ?_⟩, ?_⟩ <;> decide +kernel

/-- A granule read; a granule write with another granule to come. -/
theorem witness_MergeGoesOn :
    (let j := { patternJob with phase := .reading, source := some 1 }
     (merging j).EngineNext (issueOf (merging j)) j ∧ ((merging j).win j.window).life = .active ∧ j.aborted = false ∧
      j.phase = .reading ∧ j.pending = 0 :: [1]) ∧
    ((merging patternJob).EngineNext (issueOf (merging patternJob)) patternJob ∧ patternJob.phase = .writing ∧
      patternJob.pending = 0 :: 1 :: []) := by
  refine ⟨⟨⟨?_, ?_, ?_, ?_, ?_⟩, ?_⟩, ⟨?_, ?_, ?_, ?_, ?_⟩, ?_⟩ <;> decide +kernel

/-- The last granule; a running job; an aborted one. -/
theorem witness_MergeEnds :
    (let j := { patternJob with pending := [1] }
     (merging j).EngineNext (issueOf (merging j)) j ∧ ((merging j).recordOf j.window j.dest).isSome = true ∧
      j.aborted = false ∧ j.phase = .writing ∧ j.pending = [1]) ∧
    (let j := { patternJob with aborted := true }
     (merging j).EngineNext (issueOf (merging j)) j ∧ j.aborted = true) := by
  refine ⟨⟨⟨?_, ?_, ?_, ?_, ?_⟩, ?_⟩, ⟨?_, ?_, ?_, ?_, ?_⟩, ?_⟩ <;> decide +kernel

/-! ### Witnesses: deadlines and ready lines -/

theorem witness_OpenDeadlineTaken :
    (∀ n ∈ [0, 1],
      let s := ((withBank ready 0 0 .filling).modBank 0 0 fun r => { r with winflight := n }).modProd 0
        fun r => { r with opendl := some 0 }
      s.rstn = true ∧ (s.win 0).prod.opendl = some s.time.stamp ∧ (s.win 0).prod.bank = some 0 ∧
       (s.recordOf 0 0).isSome = true ∧ (s.bank 0 0).winflight = n) ∧
    (ready.win 0).prod.opendl ≠ some ready.time.stamp := by
  decide +kernel

theorem witness_ClaimDeadlineTaken :
    (∀ n ∈ [0, 1],
      let s := withClaim superseded 0 fun k => { k with claimdl := some 0, reads := n }
      s.rstn = true ∧ (s.claim 0 1).claimdl = some s.time.stamp ∧ (s.cfg 0).mode = .snapshot ∧ (s.claim 0 1).bank = some 0 ∧
       (s.recordOf 0 0).isSome = true ∧ (s.claim 0 1).reads = n) ∧
    (let s := withClaim delivering 1 fun k => { k with claimdl := some 0 }
     (s.claim 1 1).claimdl = some s.time.stamp ∧ (s.cfg 1).mode = .queue ∧ (s.claim 1 1).reads = 0) ∧
    (ready.claim 0 1).claimdl ≠ some ready.time.stamp := by
  decide +kernel

theorem witness_HoldDeadlineTaken :
    (let e := (entry (txn .write 0x1000 7)).hold 0 0
     let s := ready.modEntries 0 fun _ => [e]
     s.rstn = true ∧ (s.port 0).entries.find? Entry.isHeld = some e ∧ e.holdwin = some 0 ∧ e.holddl = some s.time.stamp) ∧
    ∀ e ∈ (ready.port 0).entries, e.state = .held → e.holddl ≠ some ready.time.stamp := by
  decide +kernel

theorem witness_ReadyLines :
    ready.rstn = true ∧ ready.NoCurrent 0 ∧ published.IsCurrent 0 0 ∧ (ready.cfg 0).mode = .snapshot ∧ (ready.cfg 1).mode = .queue ∧
    (let t := txn .write 0x1000 7
     (offering (withBank ready 0 0 .filling) 0 t).ProducerDispatch 0 (entry t) 0 ∧ t.kind = .write) ∧
    (let t := txn .write 0x1000 7
     (offering ready 0 t).ProducerDispatch 0 (entry t) 0 ∧ ¬ (offering ready 0 t).NoFree 0) := by
  refine ⟨?_, ?_, current_of_check ?_, ?_, ?_, ⟨producer_of_check ?_, ?_⟩, producer_of_check ?_, ?_⟩
  all_goals first
    | (unfold State.NoCurrent; decide +kernel)
    | (unfold State.NoFree; decide +kernel)
    | decide +kernel

/-! ### Witnesses: the management link -/

/-- The link takes a request in a state that receives frames and is not BUSY. -/
theorem linkReady_of {s : State} (h : s.receives = true ∧ s.link.busy = false) : s.LinkReady := ⟨h.1, h.2⟩

theorem witness_FramesDiscarded :
    ready.receives = true ∧ ready.rstn = true ∧ ∀ n ∈ [1, 63, 65], n ≠ 0 ∧ n ≠ 64 ∧ (List.replicate n true).length = n := by
  decide +kernel

theorem witness_RequestChecks :
    (let s := { ready with link := { ready.link with busy := true } }
     s.receives = true ∧ s.link.busy = true ∧ opcodeOf (.enable (req 0 0 0 0)) = some 0x20 ∧
      (0x20#8) ∉ [0x01#8, 0x11#8, 0x30#8, 0x31#8, 0x32#8, 0x33#8, 0x34#8, 0x50#8]) ∧
    (let s := { ready with link := { ready.link with busy := true } }
     s.receives = true ∧ opcodeOf (.windowRead (req 16 0 0 0)) = some 0x30) ∧
    ready.LinkReady ∧ isCommandOpcode 0x02 = false ∧
    (15 < (req 16 0 0 0).window.toNat ∧ opcodeOf (.bankRead (req 16 0 0 0)) = some 0x31) := by
  refine ⟨?_, ?_, linkReady_of ?_, ?_⟩ <;> decide +kernel

/-- A held value and one too large, in an OFF window and in one that is not; a FIELD that the table does not list. -/
theorem witness_StageCommands :
    State.reset.LinkReady ∧ ready.LinkReady ∧ (req 0 3 0 2047).window.toNat = (0 : WinId).val ∧
    ((State.reset.cfg 0).write (req 0 3 0 2047)).isSome = true ∧ (State.reset.win 0).life = .off ∧
    ((ready.cfg 0).write (req 0 3 0 2047)).isSome = true ∧ (ready.win 0).life ≠ .off ∧
    (State.reset.cfg 0).write (req 0 3 0 2048) = none ∧
    ((State.reset.cfg 0).read 0x27).isSome = true ∧ (State.reset.cfg 0).read 0x28 = none := by
  refine ⟨linkReady_of ?_, linkReady_of ?_, ?_⟩ <;> decide +kernel

/-- R16: a record at its reset values fails check 4, with a consumer added check 7; a record that passes every check; the pool exhausted. -/
theorem test_enable_reasons :
    State.reset.invalidReason 0 = some .ports ∧ (staged State.reset 0 { WindowRec.reset with consumers := 2 }).invalidReason 0 =
      some .overlapShadow ∧ offState.invalidReason 0 = none ∧
    ({ offState with pool := Vector.replicate 48 (BankRec.initial (some (5, 0)) 0) }).invalidReason 0 = some .pool := by
  decide +kernel

theorem ready_pool : ready.PoolAgrees := ⟨by decide +kernel, by decide +kernel⟩

/-- A window that passes validation, one that fails it, and one that is not OFF. -/
theorem witness_EnableAnswers :
    offState.LinkReady ∧ (offState.win 0).life = .off ∧ offState.invalidReason 0 = none ∧ offState.PoolAgrees ∧
    (offState.win 2).life = .off ∧ offState.invalidReason 2 = some .ports ∧ (ready.win 0).life ≠ .off := by
  refine ⟨linkReady_of ?_, ?_, ?_, ⟨?_, ?_⟩, ?_⟩ <;> decide +kernel

theorem witness_Drains :
    Life.suspending.draining = true ∧ ((ready.modWin 0 fun x => { x with life := .retiring }).win 0).life.draining = true := by
  decide +kernel

theorem witness_LifecycleCommands :
    ready.LinkReady ∧ (ready.win 0).life = .active ∧
    ((ready.modWin 0 fun x => { x with life := .suspended }).win 0).life = .suspended ∧
    ((ready.modWin 0 fun x => { x with life := .suspended }).win 0).life ≠ .active ∧ (ready.win 2).life = .off := by
  refine ⟨linkReady_of ?_, ?_⟩ <;> decide +kernel

theorem witness_SessionClearRestarts :
    ready.LinkReady ∧ (ready.win 0).life = .active ∧ (ready.win 0).outstanding = 0 ∧ (ready.win 2).life ≠ .active ∧
    ((ready.opStarted 0).win 0).outstanding ≠ 0 ∧ ready.pool[(0 : RecId)].owner = some (0, 0) ∧ ready.engine.jobs = [] ∧
    (merging patternJob).engine.jobs = patternJob :: [] := by
  refine ⟨linkReady_of ?_, ?_⟩ <;> decide +kernel

theorem witness_StateReads :
    ready.receives = true ∧ (req 0 3 0 0).window.toNat = (0 : WinId).val ∧ (req 0 3 0 0).index.toNat = (0 : PortId).val ∧
    3 < (req 0 4 4 0).field.toNat ∧ 3 < (req 0 4 4 0).index.toNat ∧ 1 < (req 0 2 0 0).field.toNat ∧
    ((2 : BankId).val < (ready.cfg 0).bankCount ∧ (ready.cfg 0).hasBankPage 0x20 = true ∧ (ready.win 0).life ≠ .off) ∧
    ((State.reset.win 0).life = .off ∧ (req 0 0 2 0).index.toNat < (State.reset.cfg 0).bankCount ∧
      (State.reset.cfg 0).hasBankPage 0 = true) ∧
    (let s := staged State.reset 0 { WindowRec.reset with banks := 15 }
     (s.win 0).life = .off ∧ (req 0 0 14 0).index.toNat < (s.cfg 0).bankCount) ∧
    ((ready.cfg 0).bankCount ≤ (req 0 0 3 0).index.toNat ∧ (ready.cfg 0).hasBankPage 0x21 = false) := by
  decide +kernel

/-- PRESCALE and MASK WRITE at both ends of their ranges and just outside. -/
theorem witness_CountersTimeMasks :
    ready.LinkReady ∧ 1 ≤ (req 0 0 0 1).value.toNat ∧ (req 0 0 0 250).value.toNat ≤ 250 ∧ (req 0 0 0 0).value.toNat = 0 ∧
    250 < (req 0 0 0 251).value.toNat ∧ (req 0 0 0 7).value.toNat ≤ 7 ∧ 7 < (req 0 0 0 8).value.toNat := by
  refine ⟨linkReady_of ?_, ?_⟩ <;> decide +kernel

theorem witness_FaultCommands :
    (let s := ready.offer .straddle (some 0) (some 1) (some 0x40)
     s.receives = true ∧ s.link.busy = false ∧ s.faults.queue = ⟨.straddle, some 0, some 1, some 0x40, 0⟩ :: []) ∧
    ready.faults.queue = [] ∧ (req 0 1 0 0).field.toNat ≤ 1 ∧ 1 < (req 0 2 0 0).field.toNat := by
  decide +kernel

/-! ### Witnesses: headline results -/

theorem witness_RequestRoundTrip :
    (Instr.undefinedOpcode 0xFF (req 255 255 255 0xFFFFFFFF)).wellFormed = true ∧
    encodeRequest (.undefinedOpcode 0xFF (req 255 255 255 0xFFFFFFFF)) = some 0xFFFFFFFFFFFFFFFF := by
  decide +kernel

theorem witness_SerialFrameRunsCommand : ready.receives = true := by decide +kernel

/-- An idle step of a state with two ACTIVE windows. -/
theorem witness_ConfigFixedWhileNotOff : ready.rstn = true ∧ (ready.win 0).life ≠ .off ∧ ∃ t, step ready = .next t :=
  ⟨by decide +kernel, by decide +kernel, _, rfl⟩

theorem witness_ListsKept : ready.WithinLimits ∧ ready.PortsOrdered := by
  refine ⟨⟨?_, ?_, ?_⟩, ?_⟩
  all_goals first
    | (unfold State.PortsOrdered; decide +kernel)
    | decide +kernel

theorem witness_RangesKept : ready.time.InRange ∧ ready.SeqsValid ∧ ready.CoversOrdered := by
  refine ⟨⟨?_, ?_, ?_⟩, ?_, ?_⟩
  all_goals first
    | (unfold State.SeqsValid; decide +kernel)
    | (unfold State.CoversOrdered; decide +kernel)
    | decide +kernel

theorem witness_BusyFollowsDrains : ready.BusyAgrees := ⟨by decide +kernel, by decide +kernel⟩

theorem ready_records : ∀ w : WinId, (ready.win w).life ≠ .off → ∀ y, y ≠ .pool → ready.PassesCheck w y := by
  intro w h y hy
  cases y
  case pool => exact absurd rfl hy
  all_goals simp only [State.PassesCheck]; revert h; revert w; decide +kernel

theorem ready_banks : ∀ w : WinId, (ready.win w).life = .active → ready.BanksAgree w := by
  intro w h
  refine ⟨fun b => ?_, fun b => ?_, fun a b => ?_, fun b => ?_, ?_, fun b => ?_, ?_⟩
  all_goals revert h; revert w; first | decide +kernel | (revert b; decide +kernel) | (revert a b; decide +kernel)

theorem ready_counted : ∀ w : WinId, (ready.win w).life = .active → ready.BanksCounted w := by
  intro w h
  refine ⟨?_, ?_, ?_⟩ <;> revert h <;> revert w <;> decide +kernel

/-- No claim, no holder. -/
theorem ready_claims (w : WinId) : ready.ClaimsAgree w := by
  have none : ∀ p, (ready.claim w p).bank = none := by revert w; decide +kernel
  have free : ∀ b, (ready.bank w b).holders = 0 := by revert w; decide +kernel
  have idle : ∀ p, ready.claim w p = Claim.cleared := by revert w; decide +kernel
  refine ⟨fun p h => absurd (none p) h, fun p _ => ?_, fun _ p b h => ?_, fun _ p b => ?_, fun _ p b h => ?_, fun _ b => free b⟩
  · rw [idle p]; exact ⟨rfl, rfl, rfl, rfl, rfl⟩
  · simp [none p] at h
  · simp [none p, free b, hasPort]
  · simp [none p] at h

theorem witness_ExchangeSoundKept : ready.ExchangeSound := by
  refine ⟨ready_pool, ready_records, fun w h => ⟨ready_banks w h, ready_claims w, ready_counted w h⟩, ?_, ?_, ?_⟩
  · intro w h
    have : (ready.win w).life ≠ .suspended := by revert w; decide +kernel
    exact absurd h this
  · decide +kernel
  · decide +kernel

/-- The invariant is met by a message under a claim as well: bank 0 QUEUED, alone in the order list, claimed by I1. -/
theorem witness_claims : delivering.BanksAgree 1 ∧ delivering.BanksCounted 1 ∧ (delivering.claim 1 1).bank = some 0 ∧ (delivering.win 1).order.head? = some 0 := by
  refine ⟨⟨fun b => ?_, fun b => ?_, fun a b => ?_, fun b => ?_, ?_, fun b => ?_, ?_⟩, ⟨?_, ?_, ?_⟩, ?_⟩
  all_goals first | decide +kernel | (revert b; decide +kernel) | (revert a b; decide +kernel)

end Sys2Proof.Tests
end

section
/-! ### Frames of the management link

Every management command is one frame that runs `runOpcode`; what a frame does is said once here (R176 to R181). -/

namespace Sys2Proof.Machine

open Sys2Proof

set_option Elab.async false

/-- A command that a frame carries runs as the request with its opcode (R177, R180). -/
theorem exec_request {c : Instr} {op : Byte} {r : LinkReq} (s : State) (ho : opcodeOf c = some op)
    (hr : requestOf c = some r) : exec c s = .next (s.frame op fun x => x.runOpcode op r) := by
  cases c <;> cases hr <;> cases ho <;> rfl

/-- A command that has an opcode has the other seven bytes of a request too. -/
theorem requestOf_of_opcode {c : Instr} (h : opcodeOf c ≠ none) : ∃ op r, opcodeOf c = some op ∧ requestOf c = some r := by
  cases c
  case undefinedOpcode op r => exact ⟨op, r, rfl, rfl⟩
  all_goals first | exact absurd rfl h | exact ⟨_, _, rfl, rfl⟩

/-- While RSTn is low no frame is received (R176). -/
theorem State.frame_of_reset {s : State} (h : s.rstn = false) (op : Byte) (run : State → Reply) : s.frame op run = s := by
  simp [State.frame, State.receives, h]

/-- Until CSn has risen after a release with CSn low, a frame is not received, and its CSn rise ends the interval (R176). -/
theorem State.frame_of_awaitRise {s : State} (h : s.rstn = true) (ha : s.link.receiver.awaitRise = true) (op : Byte)
    (run : State → Reply) : s.frame op run = s.csnRisen := by
  simp [State.frame, State.receives, h, ha]

/-- A frame that is received and passes check 1 of R180 executes its command. -/
theorem State.frame_runs {s : State} (h : s.receives = true) (op : Byte) (run : State → Reply)
    (hb : s.link.busy = false ∨ runsWhileBusy op = true) :
    s.frame op run = (run (s.frameEnded Config.frameClocks)).state.setLatch
      ⟨(run (s.frameEnded Config.frameClocks)).status, op, dataOf (run (s.frameEnded Config.frameClocks)).data⟩ := by
  have hb' : ((s.frameEnded Config.frameClocks).link.busy && !runsWhileBusy op) = false := by
    rcases hb with hb | hb <;> simp [State.frameEnded, hb]
  simp [State.frame, h, State.executeRequest, hb']

/-! ### The bits of a frame with no CSn rise before it -/

@[simp] theorem Receiver.csnFall_awaitRise (x : Receiver) : x.csnFall.awaitRise = x.awaitRise := by
  unfold Receiver.csnFall; split <;> rfl

@[simp] theorem Receiver.sckRise_awaitRise (b : Bool) (x : Receiver) : (x.sckRise b).awaitRise = x.awaitRise := by
  unfold Receiver.sckRise; split <;> rfl

/-- Clocks do not end the interval before CSn has risen. -/
theorem Receiver.clocks_awaitRise (bits : List Bool) (x : Receiver) :
    (bits.foldl (fun x b => x.sckRise b) x).awaitRise = x.awaitRise := by
  induction bits generalizing x with
  | nil => rfl
  | cons b bits ih => simp [ih]

/-- A frame clocked before CSn has risen leaves the receiver idle and nothing else changed. -/
theorem State.serialFrame_of_awaitRise {s : State} (ha : s.link.receiver.awaitRise = true) (bits : List Bool) :
    s.serialFrame bits = s.csnRisen := by
  simp [State.serialFrame, State.csnRise, State.modReceiver, Receiver.clocks_awaitRise, ha, State.csnRisen]

/-! ### Reset (R14, R141, R153, R176) -/

/-- RSTn low keeps every command but the two of RSTn from acting (log 2). -/
theorem exec_of_reset {s : State} (h : s.rstn = false) {c : Instr} (ha : c ≠ .rstnAssert)
    (hr : ∀ csnLow, c ≠ .rstnRelease csnLow) : exec c s = .next s := by
  by_cases ho : opcodeOf c = none
  · cases c with
    | rstnAssert => exact absurd rfl ha
    | rstnRelease csnLow => exact absurd rfl (hr csnLow)
    | accept p t => simp [exec, execAccept, State.accepts, h]
    | dispatch p => simp [exec, execDispatch, State.dispatchable, h]
    | responseReturn p => simp [exec, execResponseReturn, h]
    | grant => simp [exec, execGrant, h]
    | memoryCompletion ok rdata => simp [exec, execMemoryCompletion, h]
    | stampIncrement => simp [exec, execStampIncrement, h]
    | openDeadline w => simp [exec, execOpenDeadline, h]
    | claimDeadline w p => simp [exec, execClaimDeadline, h]
    | holdDeadline p => simp [exec, execHoldDeadline, h]
    | frameError bits => simp [exec, execFrameError, h]
    | csnRiseWithoutFrame => simp [exec, execCsnRiseWithoutFrame, h]
    | _ => cases ho
  · obtain ⟨op, r, hop, hreq⟩ := requestOf_of_opcode ho
    rw [exec_request s hop hreq, State.frame_of_reset h]

/-- The fall of RSTn (R141, R155, R163). -/
theorem rstnAssert_discards (s : State) : ∃ t, exec .rstnAssert s = .next t ∧ t.rstn = false ∧
    (∀ p : PortId, (t.port p).entries = []) ∧ (∀ r : Requester, t.mport.queues[r] = []) ∧ t.mport.outstanding = [] ∧
    t.engine.jobs = [] ∧ (∀ w : WinId, (t.win w).life = .off) ∧ (∀ i : RecId, t.pool[i].owner = none) ∧
    t.time.stamp = 0 ∧ t.link.receiver = .idle ∧ (∀ p : PortId, t.rdy p = false) ∧ t.flt = false ∧
    t.pending = s.pending := by
  refine ⟨_, rfl, rfl, ?_, ?_, rfl, rfl, ?_, ?_, rfl, rfl, fun p => rfl, rfl, rfl⟩
  · intro p; simp [State.port, PortUnit.reset]
  · intro r; simp [MemPort.reset]
  · intro w; simp [State.win, WinCtl.inReset]
  · intro i; simp

/-- Settles O5, clause by clause: the fall, the release, the frames before CSn has risen, the commands while RSTn is low. -/
theorem resetCommands : Obligations.ResetCommands := by
  refine ⟨rstnAssert_discards, fun s csnLow h => ?_, fun s c h ha hc => ?_, fun s c h => exec_of_reset h⟩
  · simp [exec, execRstnRelease, h, Link.released, State.reset, Link.reset]
  · rcases hc with ho | ⟨bits, rfl⟩
    · obtain ⟨op, r, hop, hreq⟩ := requestOf_of_opcode ho
      rw [exec_request s hop hreq, State.frame_of_awaitRise h ha]
      rfl
    · simp [exec, execFrameError, h, State.serialFrame_of_awaitRise ha, State.csnRisen, Receiver.idle]

/-! ### A refusal by the decoder's window (R130, R131) -/

/-- Settles O9: tests 4 and 5 of R130 by `classify_of_liesIn`. -/
theorem windowLevelRefusals : Obligations.WindowLevelRefusals := by
  intro s p e w hd hl
  constructor
  · intro hact
    have ht : s.treat p e = s.refuse w := by simp [State.treat, classify_of_liesIn hl, hact]
    refine ⟨_, State.exec_dispatch hd, ?_⟩
    rw [ht]
    exact ⟨answersEntry_settle (s := s) (u := s.countRefusal w) rfl _ _, rfl, rfl⟩
  · intro hact hprod hcons
    have hrole : hasRole (s.cfg w) p = false := by simp [hasRole, hprod, hcons]
    have ht : s.treat p e = ((s.countRefusal w).offer .foreign (some w) (some p) (some (startGranule (s.cfg w) e.txn)),
        .answered .refused []) := by
      simp [State.treat, classify_of_liesIn hl, hact, hrole]
    refine ⟨_, State.exec_dispatch hd, ?_⟩
    rw [ht]
    exact ⟨answersEntry_settle (s := s) (u := (s.countRefusal w).offer _ _ _ _) rfl _ _, rfl, rfl, rfl⟩

end Sys2Proof.Machine
end

section
/-! ### The state right after reset -/

namespace Sys2Proof.Machine

open Sys2Proof

set_option Elab.async false

theorem reset_cfg (w : WinId) : State.reset.cfg w = .reset := by simp [State.cfg, State.reset, Link.reset]

theorem reset_win (w : WinId) : State.reset.win w = .reset := by simp [State.win, State.reset]

theorem reset_claim (w : WinId) (p : PortId) : State.reset.claim w p = .cleared := by
  simp [State.claim, reset_win, WinCtl.reset]

theorem reset_pool (i : RecId) : State.reset.pool[i] = .unowned := by simp [State.reset]

theorem reset_port (p : PortId) : State.reset.port p = .reset := by simp [State.port, State.reset]

/-- Every window is OFF after reset, so no ready line is asserted (R163). -/
theorem reset_rdy (p : PortId) : State.reset.rdy p = false := by
  simp [State.rdy, State.readyTerm, reset_win, WinCtl.reset]

/-- Settles O4: each value by the reset value of its block. -/
theorem resetValues : Obligations.ResetValues := by
  refine ⟨fun w => ?_, fun i => ?_, fun w => ?_, fun w p => ?_, rfl, fun p => ?_, fun r => ?_, rfl, rfl, rfl, rfl, rfl, rfl, rfl,
    rfl, rfl, rfl, fun k => ?_, rfl, rfl, rfl, rfl, rfl, reset_rdy, rfl⟩
  · rw [reset_cfg]
    refine ⟨rfl, rfl, rfl, rfl, fun k => ?_, rfl, rfl, rfl, rfl, rfl, rfl, rfl, rfl, rfl, rfl, rfl, rfl, rfl, rfl⟩
    simp [WindowRec.reset]
  · rw [reset_pool]; rfl
  · rw [reset_win]; exact ⟨rfl, rfl, rfl, rfl, rfl, rfl, rfl, rfl, rfl, rfl, rfl, rfl, rfl⟩
  · rw [reset_claim]; exact ⟨rfl, rfl, rfl, rfl, rfl, rfl, rfl, rfl, rfl, rfl⟩
  · rw [reset_port]; rfl
  · simp [State.reset, MemPort.reset]
  · simp [State.reset, Link.reset, Answer.reset]

/-- With no record owned no bank is described (R8). -/
theorem State.recordOf_of_unowned {s : State} (h : ∀ i : RecId, s.pool[i].owner = none) (w : WinId) (b : BankId) :
    s.recordOf w b = none := by
  simp only [State.recordOf, List.find?_eq_none]
  intro i _
  rw [h i]
  simp

/-- A part whose windows are OFF, whose records are free and whose job list is empty is sound. -/
theorem State.exchangeSound_of_off {s : State} (hoff : ∀ w, (s.win w).life = .off)
    (hfree : ∀ i : RecId, s.pool[i].owner = none) (hjobs : s.engine.jobs = []) : s.ExchangeSound where
  pool := ⟨fun i j _ h => absurd (hfree i) h, fun w b => by simp [recordOf_of_unowned hfree, hoff]⟩
  records w h := absurd (hoff w) h
  active w h := by simp [hoff] at h
  suspended w h := by simp [hoff] at h
  jobs j h := by simp [hjobs] at h
  oneJob := by simp [hjobs]

/-- Settles O60. -/
theorem safeAtReset : Obligations.SafeAtReset := by
  refine ⟨⟨⟨fun p => ?_, by decide, by decide⟩, fun p => ?_, ⟨fun w => ?_, by decide⟩, ?_⟩, ⟨by decide, by decide, by decide⟩,
    fun w => ?_, fun i => ?_⟩
  · simp [reset_port, PortUnit.reset]
  · simp [reset_port, PortUnit.reset, inAcceptedOrder]
  · rw [reset_win]; simp [WinCtl.reset, Life.draining, State.reset, Link.reset]
  · exact State.exchangeSound_of_off (fun w => by rw [reset_win]; rfl) (fun i => by rw [reset_pool]; rfl) rfl
  · rw [reset_win]; decide
  · rw [reset_pool]; exact .nil

end Sys2Proof.Machine
end

section
/-! ### The checks of ENABLE (R16, R17) -/

namespace Sys2Proof.Machine

open Sys2Proof

set_option Elab.async false

/-! #### Ranges -/

/-- Two ranges overlap when they share a byte address (R17). -/
theorem Range.overlaps_iff (a b : Range) : a.overlaps b = true ↔ ∃ x, a.lo ≤ x ∧ x < a.hi ∧ b.lo ≤ x ∧ x < b.hi := by
  simp only [Range.overlaps, decide_eq_true_eq]
  constructor
  · intro h
    exact ⟨max a.lo b.lo, by omega⟩
  · rintro ⟨x, hx⟩
    omega

theorem Range.overlaps_comm (a b : Range) : a.overlaps b = b.overlaps a := by
  simp [Range.overlaps, Nat.max_comm, Nat.min_comm]

@[simp] theorem WindowRec.bankBase_zero (c : WindowRec) : c.bankBase 0 = c.base := by simp [WindowRec.bankBase]

@[simp] theorem WindowRec.bankBase_succ (c : WindowRec) (k : Fin 7) : c.bankBase (k.val + 1) = c.shadow[k] := by
  have : k.val + 1 ≤ 7 := k.isLt
  simp [WindowRec.bankBase, this]

@[simp] theorem WindowRec.mem_bankIds (c : WindowRec) (b : BankId) : b ∈ c.bankIds ↔ b.val < c.bankCount := by
  simp [WindowRec.bankIds]

/-- The bank indices are listed in increasing order. -/
theorem WindowRec.bankIds_sorted (c : WindowRec) : c.bankIds.Pairwise (· < ·) :=
  List.Pairwise.filter _ (List.pairwise_lt_finRange 8)

/-- What checks 1 and 2 read: BASE and the shadows that exist. -/
theorem WindowRec.any_checkedIds (c : WindowRec) (f : Nat → Bool) :
    c.checkedIds.any f = true ↔ f 0 = true ∨ ∃ k : Fin 7, k.val + 1 < min c.banks.toNat 8 ∧ f (k.val + 1) = true := by
  simp only [WindowRec.checkedIds, List.any_cons, Bool.or_eq_true, List.any_eq_true, List.mem_range'_1, WindowRec.bankCount]
  constructor
  · rintro (h | ⟨k, hk, h⟩)
    · exact .inl h
    · obtain ⟨j, rfl⟩ : ∃ j, k = j + 1 := ⟨k - 1, by omega⟩
      exact .inr ⟨⟨j, by omega⟩, by simp only; omega, h⟩
  · rintro (h | ⟨k, hk, h⟩)
    · exact .inl h
    · exact .inr ⟨k.val + 1, by omega, h⟩

/-! #### Each check -/

/-- Check 1 (R16). -/
theorem WindowRec.badLength_iff (c : WindowRec) : c.badLength = true ↔
    c.granules.toNat = 0 ∨ 1024 < c.granules.toNat ∨ 2 ^ 40 < c.base.toNat + c.granules.toNat * 64 ∨
    ∃ k : Fin 7, k.val + 1 < min c.banks.toNat 8 ∧ 2 ^ 40 < (c.shadow[k]).toNat + c.granules.toNat * 64 := by
  rw [WindowRec.badLength, Bool.or_eq_true, WindowRec.any_checkedIds]
  simp only [Bool.or_eq_true, decide_eq_true_eq, or_assoc]
  simp only [WindowRec.range, WindowRec.bankBase_zero, WindowRec.bankBase_succ, WindowRec.bytes, WindowRec.granuleCount,
    Config.granulesMax, Config.addressTop, Config.granuleBytes]

/-- Check 2 (R16). -/
theorem WindowRec.badAlign_iff (c : WindowRec) : c.badAlign = true ↔
    c.base.toNat % 64 ≠ 0 ∨ ∃ k : Fin 7, k.val + 1 < min c.banks.toNat 8 ∧ (c.shadow[k]).toNat % 64 ≠ 0 := by
  rw [WindowRec.badAlign, WindowRec.any_checkedIds]
  simp only [decide_eq_true_eq, WindowRec.bankBase_zero, WindowRec.bankBase_succ, Config.granuleBytes]

/-- Check 3 (R16). -/
theorem WindowRec.badBankCount_iff (c : WindowRec) : c.badBankCount = true ↔
    (c.mode = .snapshot ∧ (c.banks.toNat < 3 ∨ 6 < c.banks.toNat)) ∨
    (c.mode = .queue ∧ (c.banks.toNat < 1 ∨ 8 < c.banks.toNat)) := by
  cases h : c.mode <;>
    simp only [WindowRec.badBankCount, h, Bool.not_eq_true', Bool.and_eq_false_iff, decide_eq_false_iff_not, reduceCtorEq,
      true_and, false_and, or_false, false_or] <;> simp only [WindowRec.bankCount] <;> omega

/-- Check 4 (R16). -/
theorem WindowRec.badPorts_iff (c : WindowRec) : c.badPorts = true ↔
    hasPort c.consumers c.producer = true ∨
    (c.mode = .snapshot ∧ (portCount c.consumers < 1 ∨ min 3 (c.banks.toNat - 2) < portCount c.consumers)) ∨
    (c.mode = .queue ∧ portCount c.consumers ≠ 1) := by
  cases h : c.mode <;> simp only [WindowRec.badPorts, h, WindowRec.bankCount, Bool.or_eq_true, decide_eq_true_eq] <;> simp

theorem State.mem_otherWindows (s : State) (w x : WinId) : x ∈ s.otherWindows w ↔ (s.win x).life ≠ .off ∧ x ≠ w := by
  simp [State.otherWindows, mem_liveWindows]

/-- Check 6 (R16, R17). -/
theorem State.overlapsWindow_eq_false (s : State) (w : WinId) : s.overlapsWindow w = false ↔
    ∀ x, x ≠ w → (s.win x).life ≠ .off → ((s.cfg w).range 0).overlaps ((s.cfg x).range 0) = false := by
  simp only [State.overlapsWindow, List.any_eq_false, State.mem_otherWindows, Bool.not_eq_true]
  exact ⟨fun h x hx hl => h x ⟨hl, hx⟩, fun h x hx => h x hx.2 hx.1⟩

/-- A relation holds along an increasing list when it holds of every two members in order. -/
theorem pairwise_iff_of_increasing {n : Nat} {R : Fin n → Fin n → Prop} {l : List (Fin n)} (hl : l.Pairwise (· < ·)) :
    l.Pairwise R ↔ ∀ a ∈ l, ∀ b ∈ l, a < b → R a b := by
  induction l with
  | nil => simp
  | cons x l ih =>
    rw [List.pairwise_cons] at hl ⊢
    rw [ih hl.2]
    constructor
    · rintro ⟨hx, h⟩ a ha b hb hab
      rcases List.mem_cons.mp ha with rfl | hal <;> rcases List.mem_cons.mp hb with hbx | hbl
      · exact absurd (hbx ▸ hab) (lt_irrefl _)
      · exact hx b hbl
      · exact absurd (hl.1 a hal) (lt_asymm (hbx ▸ hab))
      · exact h a hal b hbl hab
    · intro h
      exact ⟨fun b hb => h x (by simp) b (by simp [hb]) (hl.1 b hb),
        fun a ha b hb => h a (by simp [ha]) b (by simp [hb])⟩

theorem anyOverlap_eq_false (l : List Range) : anyOverlap l = false ↔ l.Pairwise fun a b => a.overlaps b = false := by
  induction l with
  | nil => simp [anyOverlap]
  | cons a l ih => simp [anyOverlap, ih]

/-- The ranges of one window are disjoint (R17). -/
theorem WindowRec.ranges_disjoint_iff (c : WindowRec) : anyOverlap c.ranges = false ↔
    ∀ a b : BankId, a < b → b.val < c.bankCount → (c.range a.val).overlaps (c.range b.val) = false := by
  rw [anyOverlap_eq_false, WindowRec.ranges, List.pairwise_map, pairwise_iff_of_increasing c.bankIds_sorted]
  simp only [WindowRec.mem_bankIds]
  exact ⟨fun h a b hab hb => h a (lt_trans hab hb) b hb hab, fun h a _ b hb hab => h a b hab hb⟩

/-- Check 7 (R16, R17). -/
theorem State.overlapsShadow_eq_false (s : State) (w : WinId) : s.overlapsShadow w = false ↔
    (∀ x, x ≠ w → (s.win x).life ≠ .off →
      ∀ a b : BankId, a.val < (s.cfg w).bankCount → b.val < (s.cfg x).bankCount →
        ((s.cfg w).range a.val).overlaps ((s.cfg x).range b.val) = false) ∧
    ∀ a b : BankId, a < b → b.val < (s.cfg w).bankCount →
      ((s.cfg w).range a.val).overlaps ((s.cfg w).range b.val) = false := by
  rw [State.overlapsShadow, Bool.or_eq_false_iff, WindowRec.ranges_disjoint_iff]
  refine and_congr_left' ?_
  simp only [List.any_eq_false, State.mem_otherWindows, Bool.not_eq_true, WindowRec.ranges, List.mem_map,
    WindowRec.mem_bankIds]
  constructor
  · exact fun h x hx hl a b ha hb => h x ⟨hl, hx⟩ _ ⟨a, ha, rfl⟩ _ ⟨b, hb, rfl⟩
  · rintro h x ⟨hl, hx⟩ _ ⟨a, ha, rfl⟩ _ ⟨b, hb, rfl⟩
    exact h x hx hl a b ha hb

/-- The free records, as a list and as a set (R8). -/
theorem State.freeRecords_length (s : State) :
    s.freeRecords.length = (Finset.univ.filter fun i : RecId => s.pool[i].owner = none).card := by
  rw [State.freeRecords, Finset.card_def, Finset.filter_val, Fin.univ_def]
  simp

/-! #### The first check that fails -/

/-- Whether a check of the ENABLE validation fails. -/
def State.failsCheck (s : State) (w : WinId) : Reason → Bool
  | .length => (s.cfg w).badLength
  | .align => (s.cfg w).badAlign
  | .bankCount => (s.cfg w).badBankCount
  | .ports => (s.cfg w).badPorts
  | .limits => decide ((s.cfg w).holdlim = 0)
  | .overlapWindow => s.overlapsWindow w
  | .overlapShadow => s.overlapsShadow w
  | .pool => decide (s.freeRecords.length < (s.cfg w).bankCount)

/-- What each check tests (R16, R17). -/
theorem State.passesCheck_iff (s : State) (w : WinId) (x : Reason) : s.PassesCheck w x ↔ s.failsCheck w x = false := by
  cases x with
  | length =>
    simp only [State.PassesCheck, State.failsCheck, ← Bool.not_eq_true, WindowRec.badLength_iff]
    push Not
    exact ⟨fun ⟨h0, h1, h2, h3⟩ => ⟨by omega, h1, h2, h3⟩, fun ⟨h0, h1, h2, h3⟩ => ⟨by omega, h1, h2, h3⟩⟩
  | align =>
    simp only [State.PassesCheck, State.failsCheck, ← Bool.not_eq_true, WindowRec.badAlign_iff]
    push Not
    rfl
  | bankCount =>
    simp only [State.PassesCheck, State.failsCheck, ← Bool.not_eq_true, WindowRec.badBankCount_iff]
    push Not
    rfl
  | ports =>
    simp only [State.PassesCheck, State.failsCheck, ← Bool.not_eq_true, WindowRec.badPorts_iff]
    push Not
    rfl
  | limits => simp [State.PassesCheck, State.failsCheck]
  | overlapWindow => exact (s.overlapsWindow_eq_false w).symm
  | overlapShadow => exact (s.overlapsShadow_eq_false w).symm
  | pool => simp [State.PassesCheck, State.failsCheck, State.freeRecords_length, WindowRec.bankCount]

/-- The reason given is that of a check that fails, and every earlier check passes. -/
theorem State.invalidReason_some {s : State} {w : WinId} {x : Reason} (h : s.invalidReason w = some x) :
    (∀ y : Reason, y.code < x.code → s.failsCheck w y = false) ∧ s.failsCheck w x = true := by
  unfold State.invalidReason at h
  dsimp only at h
  split_ifs at h <;> cases h <;> refine ⟨fun y hy => ?_, by simp_all [State.failsCheck]⟩ <;>
    cases y <;> first | exact absurd hy (by decide) | simp_all [State.failsCheck]

/-- No reason is given when every check passes. -/
theorem State.invalidReason_none {s : State} {w : WinId} (h : s.invalidReason w = none) (y : Reason) :
    s.failsCheck w y = false := by
  unfold State.invalidReason at h
  dsimp only at h
  split_ifs at h
  cases y <;> simp_all [State.failsCheck]

/-- The reason codes are in the order of the checks. -/
theorem Reason.code_trichotomy (x y : Reason) : x.code < y.code ∨ x = y ∨ y.code < x.code := by
  cases x <;> cases y <;> decide

theorem State.invalidReason_eq_some_iff (s : State) (w : WinId) (x : Reason) :
    s.invalidReason w = some x ↔ (∀ y : Reason, y.code < x.code → s.PassesCheck w y) ∧ ¬ s.PassesCheck w x := by
  simp only [State.passesCheck_iff, Bool.not_eq_false]
  refine ⟨State.invalidReason_some, fun ⟨hlt, hx⟩ => ?_⟩
  cases hr : s.invalidReason w with
  | none => simp [State.invalidReason_none hr x] at hx
  | some z =>
    obtain ⟨hzlt, hz⟩ := State.invalidReason_some hr
    rcases Reason.code_trichotomy x z with h | rfl | h
    · simp [hzlt x h] at hx
    · rfl
    · simp [hlt z h] at hz

theorem State.invalidReason_eq_none_iff (s : State) (w : WinId) : s.invalidReason w = none ↔ ∀ y, s.PassesCheck w y := by
  simp only [State.passesCheck_iff]
  refine ⟨State.invalidReason_none, fun hall => ?_⟩
  cases hr : s.invalidReason w with
  | none => rfl
  | some z =>
    have := (State.invalidReason_some hr).2
    simp [hall z] at this

/-- Settles O45. -/
theorem enableChecks : Obligations.EnableChecks :=
  ⟨fun s w => ⟨s.invalidReason_eq_some_iff w, s.invalidReason_eq_none_iff w⟩,
    fun c => ⟨c.badLength_iff, c.badAlign_iff, c.badBankCount_iff, c.badPorts_iff⟩, Range.overlaps_iff⟩

end Sys2Proof.Machine
end

section
/-! ### The staged table (R1, R183) -/

namespace Sys2Proof.Machine

open Sys2Proof

set_option Elab.async false

theorem below_eq_some {n k : Nat} {v : BitVec 32} : below n v = some k ↔ v.toNat < n ∧ v.toNat = k := by
  simp [below]

@[simp] theorem isSome_below {n : Nat} {v : BitVec 32} : (below n v).isSome = true ↔ v.toNat < n := by
  simp [below]

/-- SHADOW[k] after a store. -/
theorem WindowRec.bankBase_setShadow (c : WindowRec) {k : Nat} (hk : 1 ≤ k ∧ k ≤ 7) (a : Addr) (j : Nat) :
    (c.setShadow k a).bankBase j = if j = k then a else c.bankBase j := by
  simp only [WindowRec.setShadow, hk, and_self, dite_true, WindowRec.bankBase]
  by_cases hj : 1 ≤ j ∧ j ≤ 7
  · simp only [hj, and_self, dite_true]
    by_cases h : j = k
    · subst h; simp
    · rw [if_neg h, Vector.getElem_set_ne _ _ (by omega)]
  · simp only [hj, dite_false]
    rw [if_neg (by omega)]

/-- A FIELD is named by its number. -/
theorem field_eq_iff (f : Byte) (k : Nat) (hk : k < 256) : f = BitVec.ofNat 8 k ↔ f.toNat = k := by
  constructor
  · rintro rfl; simpa using Nat.mod_eq_of_lt hk
  · rintro rfl; simp

/-- A number below 2^n, held in n bits, keeps its value. -/
theorem setWidth_ofNat_toNat {n : Nat} {v : BitVec 32} (h : v.toNat < 2 ^ n) :
    (BitVec.ofNat n v.toNat).setWidth 40 = v.setWidth 40 := by
  apply BitVec.eq_of_toNat_eq
  simp [Nat.mod_eq_of_lt h]

/-- The values of a one-bit field. -/
theorem eq_of_lt_two {v : BitVec 32} (h : v.toNat < 2) : v = 0 ∨ v = 1 := by bv_omega

/-- The values of a two-bit field. -/
theorem eq_of_lt_four {v : BitVec 32} (h : v.toNat < 4) : v = 0 ∨ v = 1 ∨ v = 2 ∨ v = 3 := by bv_omega

/-- The encoding of the two enables of RDYEN (R183). -/
theorem flagByte_of_lt_four {v : BitVec 32} (h : v.toNat < 4) :
    (flagByte [v.toNat.testBit 0, v.toNat.testBit 1]).setWidth 40 = v.setWidth 40 := by
  rcases eq_of_lt_four h with rfl | rfl | rfl | rfl <;> decide

/-- A stored field leaves the other fields as they were. -/
theorem WindowRec.read_write_other {c d : WindowRec} {r : LinkReq} (h : c.write r = some d) {f : Byte} (hf : f ≠ r.field) :
    d.read f = c.read f := by
  have hne : f.toNat ≠ r.field.toNat := fun e => hf (BitVec.eq_of_toNat_eq e)
  unfold WindowRec.write at h
  split at h <;> rename_i hk <;> simp only [Option.map_eq_some_iff, Option.some.injEq, reduceCtorEq] at h <;>
    rw [hk] at hne
  all_goals
    obtain ⟨n, -, rfl⟩ := h
    unfold WindowRec.read
    split <;> rename_i hj <;>
      first
      | rfl
      | exact absurd hj hne
      | simp [WindowRec.bankBase_setShadow]

/-- A stored field reads back as the value written (R183). -/
theorem WindowRec.read_write_same {c d : WindowRec} {r : LinkReq} (h : c.write r = some d) :
    d.read r.field = some
      (if r.field = 0x02#8 ∨ (0x21 ≤ r.field.toNat ∧ r.field.toNat ≤ 0x27) then r.index ++ r.value
       else r.value.setWidth 40) := by
  have h2 : r.field = 0x02#8 ↔ r.field.toNat = 2 := field_eq_iff r.field 2 (by decide)
  simp only [h2]
  unfold WindowRec.write at h
  split at h <;> rename_i hk <;>
    simp only [Option.map_eq_some_iff, Option.some.injEq, below_eq_some, reduceCtorEq] at h
  all_goals
    unfold WindowRec.read
    simp only [hk]
  case h_2 => exact h ▸ rfl
  case h_1 | h_7 | h_8 | h_9 | h_10 | h_11 =>
    obtain ⟨n, ⟨hn, rfl⟩, rfl⟩ := h
    rcases eq_of_lt_two hn with hv | hv <;> rw [hv] <;> rfl
  case h_5 =>
    obtain ⟨n, ⟨hn, rfl⟩, rfl⟩ := h
    rcases eq_of_lt_four hn with hv | hv | hv | hv <;> rw [hv] <;> rfl
  case h_16 =>
    obtain ⟨n, ⟨hn, rfl⟩, rfl⟩ := h
    exact congrArg some (flagByte_of_lt_four hn)
  case h_3 | h_4 | h_6 | h_12 | h_13 | h_14 | h_15 | h_17 =>
    obtain ⟨n, ⟨hn, rfl⟩, rfl⟩ := h
    exact congrArg some (setWidth_ofNat_toNat hn)
  all_goals
    subst h
    simp [WindowRec.bankBase_setShadow, addressOf]

/-- A value is stored exactly when its FIELD is listed and it lies in the held range of R1. -/
theorem WindowRec.isSome_write (c : WindowRec) (r : LinkReq) : (c.write r).isSome = true ↔
    (r.field.toNat ∈ [0x01, 0x07, 0x08, 0x09, 0x0A, 0x0B] ∧ r.value.toNat < 2) ∨
    (r.field.toNat ∈ [0x05, 0x10] ∧ r.value.toNat < 4) ∨
    (r.field.toNat ∈ [0x04, 0x06] ∧ r.value.toNat < 16) ∨
    (r.field.toNat = 0x0C ∧ r.value.toNat < 256) ∨
    (r.field.toNat = 0x11 ∧ r.value.toNat < 1024) ∨
    (r.field.toNat = 0x03 ∧ r.value.toNat < 2048) ∨
    (r.field.toNat ∈ [0x0D, 0x0E, 0x0F] ∧ r.value.toNat < 65536) ∨
    r.field.toNat = 0x02 ∨ (0x21 ≤ r.field.toNat ∧ r.field.toNat ≤ 0x27) := by
  unfold WindowRec.write
  split
  case h_25 =>
    refine iff_of_false (by simp) ?_
    simp only [List.mem_cons, List.not_mem_nil]
    grind
  all_goals
    rename_i hk
    simp [hk]

/-! ### What an executed request leaves (R177, R179) -/

theorem State.withWindow_of {s : State} {r : LinkReq} {w : WinId} (h : r.window.toNat = w.val) (run : WinId → Reply) :
    s.withWindow r run = run w := by
  have hlt : r.window.toNat < 16 := h ▸ w.isLt
  have hw : (⟨r.window.toNat, hlt⟩ : WinId) = w := Fin.ext h
  rw [State.withWindow, dif_pos hlt, hw]

@[simp] theorem State.apartFromAnswer_setLatch (s t : State) (a : Answer) :
    s.apartFromAnswer (t.setLatch a) = s.apartFromAnswer t := rfl

@[simp] theorem State.apartFromAnswer_frameEnded (s : State) (n : Nat) : s.apartFromAnswer (s.frameEnded n) = s := rfl

/-- A command whose frame is received and passes check 1 leaves the state of its reply, answered. -/
theorem exec_answered {s u : State} {c : Instr} {op : Byte} {run : State → Reply} {x : Status} {data : List Byte}
    (hc : exec c s = .next (s.frame op run)) (h : s.receives = true) (hb : s.link.busy = false ∨ runsWhileBusy op = true)
    (hrun : run (s.frameEnded Config.frameClocks) = ⟨u, x, data⟩) (hr : u.link.receiver = .idle)
    (ho : u.out = (s.frameEnded Config.frameClocks).out) :
    exec c s = .next (u.setLatch ⟨x, op, dataOf data⟩) ∧ s.Answered (u.setLatch ⟨x, op, dataOf data⟩) op x data := by
  rw [hc, State.frame_runs h op run hb, hrun]
  exact ⟨rfl, rfl, hr, ho⟩

/-- A command that changes nothing but the answer. -/
theorem exec_answered_only {s : State} {c : Instr} {op : Byte} {run : State → Reply} {x : Status} {data : List Byte}
    (hc : exec c s = .next (s.frame op run)) (h : s.receives = true) (hb : s.link.busy = false ∨ runsWhileBusy op = true)
    (hrun : run (s.frameEnded Config.frameClocks) = ⟨s.frameEnded Config.frameClocks, x, data⟩) :
    ∃ t, exec c s = .next t ∧ s.Answered t op x data ∧ s.apartFromAnswer t = s := by
  obtain ⟨he, ha⟩ := exec_answered hc h hb hrun rfl rfl
  exact ⟨_, he, ha, rfl⟩

/-- STAGE WRITE (R183). -/
theorem stageWrite_answers {s : State} {r : LinkReq} {w : WinId} (h : s.LinkReady) (hw : r.window.toNat = w.val) :
    (∀ c, (s.cfg w).write r = some c → (s.win w).life = .off →
      ∃ t, exec (.stageWrite r) s = .next t ∧ s.Answered t 0x10 .done (le32 r.value) ∧
        s.apartFromAnswer t = { s with link := { s.link with staged := s.link.staged.set w.val c } }) ∧
    (∀ c, (s.cfg w).write r = some c → (s.win w).life ≠ .off →
      ∃ t, exec (.stageWrite r) s = .next t ∧ s.Answered t 0x10 .badState [] ∧ s.apartFromAnswer t = s) ∧
    ((s.cfg w).write r = none →
      ∃ t, exec (.stageWrite r) s = .next t ∧ s.Answered t 0x10 .badField [] ∧ s.apartFromAnswer t = s) := by
  refine ⟨fun c hc hl => ?_, fun c hc hl => ?_, fun hc => ?_⟩
  · obtain ⟨he, ha⟩ := exec_answered (s := s) (c := .stageWrite r) (u := (s.frameEnded Config.frameClocks).stage w c) rfl
      h.receives (.inl h.idle) (x := .done) (data := le32 r.value)
      (by simp [State.cmdStageWrite, State.withWindow_of hw, hc, hl]) rfl rfl
    exact ⟨_, he, ha, rfl⟩
  · exact exec_answered_only rfl h.receives (.inl h.idle)
      (by simp [State.cmdStageWrite, State.withWindow_of hw, hc, hl, State.reply])
  · exact exec_answered_only rfl h.receives (.inl h.idle)
      (by simp [State.cmdStageWrite, State.withWindow_of hw, hc, State.reply])

/-- STAGE READ (R183). -/
theorem stageRead_answers {s : State} {r : LinkReq} {w : WinId} (h : s.receives = true) (hw : r.window.toNat = w.val) :
    (∀ x, (s.cfg w).read r.field = some x →
      ∃ t, exec (.stageRead r) s = .next t ∧
        s.Answered t 0x11 .done (le32 (x.extractLsb' 0 32) ++ [x.extractLsb' 32 8]) ∧ s.apartFromAnswer t = s) ∧
    ((s.cfg w).read r.field = none →
      ∃ t, exec (.stageRead r) s = .next t ∧ s.Answered t 0x11 .badField [] ∧ s.apartFromAnswer t = s) := by
  constructor
  · intro x hx
    exact exec_answered_only rfl h (.inr rfl) (by simp [State.cmdStageRead, State.withWindow_of hw, hx, State.replyData])
  · intro hx
    exact exec_answered_only rfl h (.inr rfl) (by simp [State.cmdStageRead, State.withWindow_of hw, hx, State.reply])

/-- Settles O44. -/
theorem stageCommands : Obligations.StageCommands :=
  ⟨fun _ _ _ h hw => stageWrite_answers h hw, fun _ _ _ h hw => stageRead_answers h hw,
    fun _ _ _ h => ⟨WindowRec.read_write_same h, fun _ hf => WindowRec.read_write_other h hf⟩, WindowRec.isSome_write⟩

end Sys2Proof.Machine
end

section
/-! ### The pool (R8, R10): which record describes which bank, and what ENABLE takes -/

namespace Sys2Proof.Machine

open Sys2Proof

set_option Elab.async false

/-! #### Records and owners -/

/-- A bank has a record when some record names it as its owner. -/
theorem State.isSome_recordOf (s : State) (w : WinId) (b : BankId) :
    (s.recordOf w b).isSome = true ↔ ∃ i : RecId, s.pool[i].owner = some (w, b) := by
  simp [State.recordOf, List.find?_isSome]

/-- The record of a bank is the only one that names it. -/
theorem State.recordOf_of_unique {s : State} {w : WinId} {b : BankId} {i : RecId} (hi : s.pool[i].owner = some (w, b))
    (hu : ∀ j : RecId, s.pool[j].owner = some (w, b) → j = i) : s.recordOf w b = some i := by
  obtain ⟨j, hj⟩ := Option.isSome_iff_exists.mp ((s.isSome_recordOf w b).mpr ⟨i, hi⟩)
  rw [hj, hu j (s.owner_of_record hj)]

/-- The records of a pool in which the owners are the same describe the same banks. -/
theorem State.recordOf_congr {s t : State} (h : ∀ i : RecId, t.pool[i].owner = s.pool[i].owner) (w : WinId) (b : BankId) :
    t.recordOf w b = s.recordOf w b := by
  unfold State.recordOf
  congr 1
  funext i
  rw [h i]

/-- An unowned bank reads as a free record. -/
theorem State.bank_of_no_record {s : State} {w : WinId} {b : BankId} (h : ¬ (s.recordOf w b).isSome = true) :
    s.bank w b = .unowned := by
  simp only [Option.not_isSome_iff_eq_none] at h
  simp [State.bank, h]

/-- A bank that is not FREE has a record. -/
theorem State.owned_of_not_free {s : State} {w : WinId} {b : BankId} (h : (s.bank w b).state ≠ .free) :
    (s.recordOf w b).isSome = true := by
  by_contra hn
  exact h (by rw [State.bank_of_no_record hn]; rfl)

/-- Agreement of pool and windows in terms of the owners alone. -/
theorem State.poolAgrees_iff (s : State) : s.PoolAgrees ↔
    (∀ i j : RecId, s.pool[i].owner = s.pool[j].owner → s.pool[i].owner ≠ none → i = j) ∧
    ∀ w b, (∃ i : RecId, s.pool[i].owner = some (w, b)) ↔ (s.win w).life ≠ .off ∧ b.val < (s.cfg w).bankCount := by
  simp only [← State.isSome_recordOf]
  exact ⟨fun h => ⟨h.oneRecord, h.owned⟩, fun h => ⟨h.1, h.2⟩⟩

/-! #### The free records -/

theorem State.mem_freeRecords (s : State) (i : RecId) : i ∈ s.freeRecords ↔ s.pool[i].owner = none := by
  simp only [State.freeRecords, List.mem_filter, List.mem_finRange, true_and, decide_eq_true_eq]

theorem State.freeRecords_nodup (s : State) : s.freeRecords.Nodup := (List.nodup_finRange 48).filter _

/-- The pool after a bank has taken the lowest free record. -/
theorem State.takeRecord_pool {s : State} {w : WinId} {b : BankId} {f : RecId} {rest : List RecId}
    (h : s.freeRecords = f :: rest) :
    (s.takeRecord w b).pool = s.pool.set f.val (BankRec.initial (some (w, b)) ((s.cfg w).bankBase b.val)) := by
  simp [State.takeRecord, h, modRecord]

/-- The record taken is no longer free. -/
theorem State.takeRecord_freeRecords {s : State} {w : WinId} {b : BankId} {f : RecId} {rest : List RecId}
    (h : s.freeRecords = f :: rest) : (s.takeRecord w b).freeRecords = rest := by
  have hf : f ∉ rest := (List.nodup_cons.mp (h ▸ s.freeRecords_nodup)).1
  have hfilter : (s.takeRecord w b).freeRecords = s.freeRecords.filter fun i => decide (i ≠ f) := by
    rw [State.freeRecords, State.freeRecords, List.filter_filter, State.takeRecord_pool h]
    refine List.filter_congr fun i _ => ?_
    by_cases hi : i = f
    · subst hi
      simp [BankRec.initial]
    · rw [vector_set_get_fin_ne _ _ hi]
      simp [hi]
  rw [hfilter, h]
  simp only [ne_eq, not_true_eq_false, decide_false, Bool.false_eq_true, not_false_eq_true, List.filter_cons_of_neg]
  exact List.filter_eq_self.mpr fun i hi => by simpa using fun e : i = f => hf (e ▸ hi)

/-- Banks in a row take the lowest free records in a row. -/
theorem State.takeRecord_foldl (w : WinId) (bs : List BankId) (s : State) (h : bs.length ≤ s.freeRecords.length) :
    (∀ (j : Nat) (f : RecId) (b : BankId), s.freeRecords[j]? = some f → bs[j]? = some b →
      (bs.foldl (fun s b => s.takeRecord w b) s).pool[f] = BankRec.initial (some (w, b)) ((s.cfg w).bankBase b.val)) ∧
    ∀ i : RecId, i ∉ s.freeRecords.take bs.length → (bs.foldl (fun s b => s.takeRecord w b) s).pool[i] = s.pool[i] := by
  induction bs generalizing s with
  | nil => simp
  | cons b bs ih =>
    obtain ⟨f, rest, hF⟩ : ∃ f rest, s.freeRecords = f :: rest := by
      cases hF : s.freeRecords with
      | nil => simp [hF] at h
      | cons f rest => exact ⟨f, rest, rfl⟩
    have hrest := State.takeRecord_freeRecords (w := w) (b := b) hF
    have hfr : f ∉ rest := (List.nodup_cons.mp (hF ▸ s.freeRecords_nodup)).1
    obtain ⟨htaken, hother⟩ := ih (s.takeRecord w b) (by rw [hrest]; simpa [hF] using h)
    rw [hrest] at htaken hother
    rw [hF, List.foldl_cons]
    refine ⟨fun j g c hg hc => ?_, fun i hi => ?_⟩
    · cases j with
      | zero =>
        cases hg
        cases hc
        rw [hother f fun hm => hfr (List.mem_of_mem_take hm), State.takeRecord_pool hF]
        simp
      | succ j => exact htaken j g c hg hc
    · simp only [List.length_cons, List.take_succ_cons, List.mem_cons, not_or] at hi
      rw [hother i hi.2, State.takeRecord_pool hF, vector_set_get_fin_ne _ _ hi.1]

/-- ENABLE changes the pool alone. -/
theorem State.takeRecords_eq (s : State) (w : WinId) : s.takeRecords w = { s with pool := (s.takeRecords w).pool } := by
  unfold State.takeRecords
  generalize (s.cfg w).bankIds = bs
  induction bs generalizing s with
  | nil => rfl
  | cons b bs ih =>
    rw [List.foldl_cons, ih]
    rfl

/-- The bank indices of a window that ENABLE admits are 0 to BANKS − 1. -/
theorem WindowRec.bankIds_eq_take {c : WindowRec} (h : c.bankCount ≤ 8) :
    c.bankIds = (List.finRange 8).take c.bankCount := by
  unfold WindowRec.bankIds
  generalize c.bankCount = n at h
  interval_cases n <;> rfl

theorem WindowRec.bankIds_length {c : WindowRec} (h : c.bankCount ≤ 8) : c.bankIds.length = c.bankCount := by
  simp [WindowRec.bankIds_eq_take h, h]

/-- The pool after ENABLE: bank b in the free record number b, every other record as it was (R10). -/
theorem State.takeRecords_pool {s : State} {w : WinId} (hb : (s.cfg w).bankCount ≤ 8)
    (hfree : (s.cfg w).bankCount ≤ s.freeRecords.length) :
    (∀ (b : BankId) (f : RecId), b.val < (s.cfg w).bankCount → s.freeRecords[b.val]? = some f →
      (s.takeRecords w).pool[f] = BankRec.initial (some (w, b)) ((s.cfg w).bankBase b.val)) ∧
    ∀ i : RecId, i ∉ s.freeRecords.take (s.cfg w).bankCount → (s.takeRecords w).pool[i] = s.pool[i] := by
  have hlen := WindowRec.bankIds_length hb
  obtain ⟨htaken, hother⟩ := State.takeRecord_foldl w (s.cfg w).bankIds s (hlen ▸ hfree)
  rw [hlen] at hother
  refine ⟨fun b f hlt hf => htaken b.val f b hf ?_, hother⟩
  simp [WindowRec.bankIds_eq_take hb, hlt]

/-- Who owns a record after ENABLE: a taken one its bank of the window, any other the bank it had. -/
theorem State.takeRecords_owner {s : State} {w : WinId} (hb : (s.cfg w).bankCount ≤ 8)
    (hfree : (s.cfg w).bankCount ≤ s.freeRecords.length) (i : RecId) :
    (∃ b : BankId, b.val < (s.cfg w).bankCount ∧ s.freeRecords[b.val]? = some i ∧
      (s.takeRecords w).pool[i].owner = some (w, b)) ∨
    (s.takeRecords w).pool[i] = s.pool[i] := by
  obtain ⟨htaken, hother⟩ := State.takeRecords_pool hb hfree
  by_cases hi : i ∈ s.freeRecords.take (s.cfg w).bankCount
  · obtain ⟨j, hj, rfl⟩ := List.mem_take_iff_getElem.mp hi
    have hj' : j < (s.cfg w).bankCount := by omega
    have hget : s.freeRecords[j]? = some s.freeRecords[j] := by simp
    exact .inl ⟨⟨j, by omega⟩, hj', hget, by rw [htaken ⟨j, by omega⟩ _ hj' hget]; rfl⟩
  · exact .inr (hother i hi)

/-- The record of a bank of the enabled window (R10). -/
theorem State.takeRecords_recordOf {s : State} {w : WinId} (hp : s.PoolAgrees) (hoff : (s.win w).life = .off)
    (hb : (s.cfg w).bankCount ≤ 8) (hfree : (s.cfg w).bankCount ≤ s.freeRecords.length) {b : BankId}
    (hlt : b.val < (s.cfg w).bankCount) : (s.takeRecords w).recordOf w b = s.freeRecords[b.val]? := by
  have hget : s.freeRecords[b.val]? = some s.freeRecords[b.val] := by simp
  rw [hget]
  refine State.recordOf_of_unique (by rw [(State.takeRecords_pool hb hfree).1 b _ hlt hget]; rfl) fun j hj => ?_
  rcases State.takeRecords_owner hb hfree j with ⟨c, hc, hcj, hown⟩ | hsame
  · rw [hown] at hj
    cases hj
    exact Option.some.inj (hcj.symm.trans hget)
  · rw [hsame] at hj
    exact absurd hoff (((s.poolAgrees_iff.mp hp).2 w b).mp ⟨j, hj⟩).1

/-- The bank itself holds the initial values of R9 (R10). -/
theorem State.takeRecords_bank {s : State} {w : WinId} (hp : s.PoolAgrees) (hoff : (s.win w).life = .off)
    (hb : (s.cfg w).bankCount ≤ 8) (hfree : (s.cfg w).bankCount ≤ s.freeRecords.length) {b : BankId}
    (hlt : b.val < (s.cfg w).bankCount) :
    (s.takeRecords w).bank w b = BankRec.initial (some (w, b)) ((s.cfg w).bankBase b.val) := by
  have hget : s.freeRecords[b.val]? = some s.freeRecords[b.val] := by simp
  rw [State.bank_of_record _ ((State.takeRecords_recordOf hp hoff hb hfree hlt).trans hget)]
  exact (State.takeRecords_pool hb hfree).1 b _ hlt hget

/-! #### ENABLE (R16, R18, R184) -/

/-- A window that passes validation has at most 8 banks (check 3 of R16). -/
theorem State.bankCount_le {s : State} {w : WinId} (h : s.PassesCheck w .bankCount) : (s.cfg w).bankCount ≤ 8 := by
  obtain ⟨hs, hq⟩ := h
  cases hm : (s.cfg w).mode with
  | snapshot => exact (hs hm).2.trans (by decide)
  | queue => exact (hq hm).2

/-- A window that passes validation finds a record for each bank (check 8 of R16). -/
theorem State.bankCount_le_free {s : State} {w : WinId} (h : s.PassesCheck w .pool) :
    (s.cfg w).bankCount ≤ s.freeRecords.length := s.freeRecords_length ▸ h

/-- The validation reads neither the latch nor the receiver. -/
@[simp] theorem State.invalidReason_frameEnded (s : State) (n : Nat) (w : WinId) :
    (s.frameEnded n).invalidReason w = s.invalidReason w := rfl

/-- Settles O46. -/
theorem enableAnswers : Obligations.EnableAnswers := by
  intro s r w h hw
  refine ⟨fun hoff hv hp => ?_, fun x hoff hx => ?_, fun hlive => ?_⟩
  · have hall := (s.invalidReason_eq_none_iff w).mp hv
    have hb := State.bankCount_le (hall .bankCount)
    have hfree := State.bankCount_le_free (hall .pool)
    have hp' : (s.frameEnded Config.frameClocks).PoolAgrees := ⟨hp.oneRecord, hp.owned⟩
    have htake := State.takeRecords_eq (s.frameEnded Config.frameClocks) w
    obtain ⟨he, ha⟩ := exec_answered (s := s) (c := .enable r) (u := (s.frameEnded Config.frameClocks).enableWindow w) rfl
      h.receives (.inl h.idle) (x := .done) (data := [])
      (by simp [State.cmdEnable, State.withWindow_of hw, hoff, hv, State.reply])
      (congrArg Base.receiver (State.base_takeRecords _ w)) (congrArg Base.out (State.base_takeRecords _ w))
    refine ⟨_, he, ha, ?_, fun b hlt => ⟨?_, ?_⟩,
      (State.takeRecords_pool (s := s.frameEnded Config.frameClocks) hb hfree).2, ?_⟩
    · rw [State.setLatch_windows, State.enableWindow, State.modWin_windows, htake]
      rfl
    · exact State.takeRecords_recordOf hp' hoff hb hfree hlt
    · exact State.takeRecords_bank hp' hoff hb hfree hlt
    · rw [State.apartFromAnswer_setLatch, State.enableWindow, htake]
      rfl
  · exact exec_answered_only rfl h.receives (.inl h.idle)
      (by simp [State.cmdEnable, State.withWindow_of hw, hoff, hx])
  · exact exec_answered_only rfl h.receives (.inl h.idle)
      (by simp [State.cmdEnable, State.withWindow_of hw, hlive, State.reply])

end Sys2Proof.Machine
end

section
/-! ### Drains (R19, R21, R181) -/

namespace Sys2Proof.Machine

open Sys2Proof

set_option Elab.async false

/-! #### The entry to a draining state -/

/-- The transactions that a window holds at one port, refused and counted. -/
def State.refuseHoldsAt (w : WinId) (s : State) (p : PortId) : State :=
  (s.modEntries p (refuseHeld w)).modWin w fun x => { x with refusals := x.refusals + BitVec.ofNat 32 (s.heldCount w p) }

theorem State.refuseHolds_def (s : State) (w : WinId) : s.refuseHolds w = (List.finRange 4).foldl (State.refuseHoldsAt w) s :=
  rfl

/-- The refusal of held transactions changes the ports and the controllers alone. -/
theorem State.refuseHolds_eq (s : State) (w : WinId) :
    s.refuseHolds w = { s with ports := (s.refuseHolds w).ports, windows := (s.refuseHolds w).windows } := by
  rw [State.refuseHolds_def]
  generalize List.finRange 4 = ps
  induction ps generalizing s with
  | nil => rfl
  | cons p ps ih =>
    rw [List.foldl_cons, ih]
    rfl

/-- The count at one port does not depend on the refusals at another. -/
theorem State.heldCount_refuseHoldsAt (s : State) (w : WinId) {p q : PortId} (h : q ≠ p) :
    (s.refuseHoldsAt w p).heldCount w q = s.heldCount w q := by
  simp [State.refuseHoldsAt, State.heldCount, State.port_modEntries_ne _ _ h]

/-- The transactions held at some of the ports, refused and counted. -/
theorem State.refuseHolds_foldl (w : WinId) (ps : List PortId) (hps : ps.Nodup) (s : State) :
    (∀ q, (ps.foldl (State.refuseHoldsAt w) s).port q =
      if q ∈ ps then { s.port q with entries := refuseHeld w (s.port q).entries } else s.port q) ∧
    (∀ x, x ≠ w → (ps.foldl (State.refuseHoldsAt w) s).win x = s.win x) ∧
    (ps.foldl (State.refuseHoldsAt w) s).win w =
      { s.win w with refusals := (s.win w).refusals + BitVec.ofNat 32 ((ps.map fun p => s.heldCount w p).sum) } := by
  induction ps generalizing s with
  | nil => simp
  | cons p ps ih =>
    obtain ⟨hp, hps⟩ := List.nodup_cons.mp hps
    obtain ⟨hport, hwin, hw⟩ := ih hps (s.refuseHoldsAt w p)
    rw [List.foldl_cons]
    refine ⟨fun q => ?_, fun x hx => ?_, ?_⟩
    · rw [hport]
      by_cases hq : q = p
      · subst hq
        simp [hp, State.refuseHoldsAt]
      · simp [hq, State.refuseHoldsAt, State.port_modEntries_ne _ _ hq]
    · rw [hwin x hx, State.refuseHoldsAt, State.win_modWin_ne _ _ hx, State.modEntries_win]
    · have hcount : ∀ q ∈ ps, (s.refuseHoldsAt w p).heldCount w q = s.heldCount w q :=
        fun q hq => s.heldCount_refuseHoldsAt w fun e => hp (e ▸ hq)
      rw [hw, List.map_congr_left hcount]
      simp [State.refuseHoldsAt, BitVec.ofNat_add, BitVec.add_assoc]

/-- The number of transactions that a window holds at the four ports. -/
def State.holdTotal (s : State) (w : WinId) : Nat := ((List.finRange 4).map fun p => s.heldCount w p).sum

theorem State.refuseHolds_port (s : State) (w : WinId) (p : PortId) :
    (s.refuseHolds w).port p = { s.port p with entries := refuseHeld w (s.port p).entries } := by
  have := (State.refuseHolds_foldl w (List.finRange 4) (List.nodup_finRange 4) s).1 p
  rwa [if_pos (List.mem_finRange p)] at this

theorem State.refuseHolds_win_same (s : State) (w : WinId) :
    (s.refuseHolds w).win w = { s.win w with refusals := (s.win w).refusals + BitVec.ofNat 32 (s.holdTotal w) } :=
  (State.refuseHolds_foldl w (List.finRange 4) (List.nodup_finRange 4) s).2.2

theorem State.refuseHolds_win_ne (s : State) {w x : WinId} (h : x ≠ w) : (s.refuseHolds w).win x = s.win x :=
  (State.refuseHolds_foldl w (List.finRange 4) (List.nodup_finRange 4) s).2.1 x h

/-- The state after the entry to a draining state, before the drain may end in the same event (R19). -/
def State.drainBegun (s : State) (w : WinId) (target : Life) : State :=
  (((s.refuseHolds w).modWin w WinCtl.cancelDeadlines).modJobs (abortJob w)).modWin w fun x => { x with life := target }

/-- A controller after the entry to a draining state, with the held transactions counted (R19). -/
def WinCtl.draining (x : WinCtl) (held : Nat) (target : Life) : WinCtl :=
  { x.cancelDeadlines with refusals := x.refusals + BitVec.ofNat 32 held, life := target }

theorem State.drainBegun_port (s : State) (w : WinId) (target : Life) (p : PortId) :
    (s.drainBegun w target).port p = { s.port p with entries := refuseHeld w (s.port p).entries } :=
  s.refuseHolds_port w p

theorem State.drainBegun_win_same (s : State) (w : WinId) (target : Life) :
    (s.drainBegun w target).win w = (s.win w).draining (s.holdTotal w) target := by
  simp [State.drainBegun, State.refuseHolds_win_same, WinCtl.draining, WinCtl.cancelDeadlines]

theorem State.drainBegun_win_ne (s : State) {w x : WinId} (target : Life) (h : x ≠ w) :
    (s.drainBegun w target).win x = s.win x := by
  simp [State.drainBegun, State.win_modWin_ne _ _ h, State.refuseHolds_win_ne s h]

theorem State.drainBegun_jobs (s : State) (w : WinId) (target : Life) :
    (s.drainBegun w target).engine.jobs = abortJob w s.engine.jobs := by
  unfold State.drainBegun
  rw [State.refuseHolds_eq]
  rfl

/-- The entry changes the ports, the controllers and the job list alone. -/
theorem State.drainBegun_eq (s : State) (w : WinId) (target : Life) :
    s.drainBegun w target =
      { s with
        ports := (s.drainBegun w target).ports, windows := (s.drainBegun w target).windows
        engine := { s.engine with jobs := (s.drainBegun w target).engine.jobs } } := by
  unfold State.drainBegun
  rw [State.refuseHolds_eq]
  rfl

/-- The entry to a draining state, and the end of the drain in the same event with nothing outstanding (R19, R21). -/
theorem State.drainEntry_eq (s : State) (w : WinId) {target : Life} (h : target.draining = true) :
    s.drainEntry w target =
      if (s.win w).outstanding = 0 then (s.drainBegun w target).drainComplete w else s.drainBegun w target := by
  have hw := s.drainBegun_win_same w target
  have hlife : ((s.drainBegun w target).win w).life.draining = true := by rw [hw]; exact h
  have hout : ((s.drainBegun w target).win w).outstanding = (s.win w).outstanding := by rw [hw]; rfl
  have : s.drainEntry w target = (s.drainBegun w target).drainCheck w := rfl
  rw [this, State.drainCheck, hlife, ← hout]
  simp

/-! #### The end of a drain -/

theorem BankRec.ownedBy_iff (r : BankRec) (w : WinId) : r.ownedBy w = true ↔ ∃ b, r.owner = some (w, b) := by
  unfold BankRec.ownedBy
  cases h : r.owner with
  | none => simp
  | some o => obtain ⟨x, b⟩ := o; simp [eq_comm]

theorem BankRec.ownedBy_of_owner {r : BankRec} {w : WinId} {b : BankId} (h : r.owner = some (w, b)) : r.ownedBy w = true :=
  (r.ownedBy_iff w).mpr ⟨b, h⟩

theorem BankRec.ownedBy_eq_false {r : BankRec} {w : WinId} (h : ∀ b, r.owner ≠ some (w, b)) : r.ownedBy w = false := by
  rw [← Bool.not_eq_true, BankRec.ownedBy_iff]
  exact fun ⟨b, hb⟩ => h b hb

theorem State.reinitBanks_pool (s : State) (w : WinId) (i : RecId) : (s.reinitBanks w).pool[i] =
    if s.pool[i].ownedBy w then BankRec.initial s.pool[i].owner s.pool[i].pbase else s.pool[i] :=
  mapVec_getElem_fin _ _ i

theorem State.freeBanks_pool (s : State) (w : WinId) (i : RecId) : (s.freeBanks w).pool[i] =
    if s.pool[i].ownedBy w then { s.pool[i] with owner := none } else s.pool[i] :=
  mapVec_getElem_fin _ _ i

/-- The controllers at the end of a drain (R21). -/
theorem State.drainComplete_windows (s : State) (w : WinId) : (s.drainComplete w).windows =
    s.windows.set w.val { (s.win w).drained with life := (s.win w).life.afterDrain } := by
  unfold State.drainComplete
  dsimp only
  split <;> rfl

theorem State.drainComplete_win_same (s : State) (w : WinId) :
    (s.drainComplete w).win w = { (s.win w).drained with life := (s.win w).life.afterDrain } := by
  simp [State.win, State.drainComplete_windows]

theorem State.drainComplete_win_ne (s : State) {w x : WinId} (h : x ≠ w) : (s.drainComplete w).win x = s.win x := by
  simp only [State.win, State.drainComplete_windows]
  exact vector_set_get_fin_ne _ _ h

theorem State.drainComplete_pool (s : State) (w : WinId) : (s.drainComplete w).pool =
    if (s.win w).life = .retiring then ((s.reinitBanks w).freeBanks w).pool else (s.reinitBanks w).pool := by
  unfold State.drainComplete
  dsimp only
  split <;> rfl

/-- The bank records of the window at the end of its drain (R9, R21). -/
theorem State.drainComplete_pool_same (s : State) (w : WinId) {i : RecId} {b : BankId} (h : s.pool[i].owner = some (w, b)) :
    (s.drainComplete w).pool[i] =
      { BankRec.initial (some (w, b)) s.pool[i].pbase with
        owner := if (s.win w).life = .retiring then none else some (w, b) } := by
  have hr : (s.reinitBanks w).pool[i] = BankRec.initial (some (w, b)) s.pool[i].pbase := by
    rw [State.reinitBanks_pool, if_pos (BankRec.ownedBy_of_owner h), h]
  rw [State.drainComplete_pool]
  by_cases hl : (s.win w).life = .retiring
  · rw [if_pos hl, if_pos hl, State.freeBanks_pool, hr, if_pos (BankRec.ownedBy_of_owner (b := b) rfl)]
  · rw [if_neg hl, if_neg hl, hr]
    rfl

/-- The other records. -/
theorem State.drainComplete_pool_other (s : State) (w : WinId) {i : RecId} (h : ∀ b, s.pool[i].owner ≠ some (w, b)) :
    (s.drainComplete w).pool[i] = s.pool[i] := by
  have ho := BankRec.ownedBy_eq_false h
  have hr : (s.reinitBanks w).pool[i] = s.pool[i] := by rw [State.reinitBanks_pool, ho]; rfl
  rw [State.drainComplete_pool]
  by_cases hl : (s.win w).life = .retiring
  · rw [if_pos hl, State.freeBanks_pool, hr, ho]
    rfl
  · rw [if_neg hl, hr]

theorem State.drainComplete_link (s : State) (w : WinId) : (s.drainComplete w).link = s.link.drainEnded w := by
  unfold State.drainComplete
  dsimp only
  split <;> rfl

/-- The end of a drain changes the controllers, the pool and the link alone. -/
theorem State.drainComplete_eq (s : State) (w : WinId) :
    s.drainComplete w =
      { s with
        windows := (s.drainComplete w).windows, pool := (s.drainComplete w).pool, link := (s.drainComplete w).link } := by
  unfold State.drainComplete
  dsimp only
  split <;> rfl

theorem State.drainComplete_ports (s : State) (w : WinId) : (s.drainComplete w).ports = s.ports := by
  unfold State.drainComplete
  dsimp only
  split <;> rfl

theorem State.drainComplete_engine (s : State) (w : WinId) : (s.drainComplete w).engine = s.engine := by
  unfold State.drainComplete
  dsimp only
  split <;> rfl

theorem State.drainComplete_port (s : State) (w : WinId) (p : PortId) : (s.drainComplete w).port p = s.port p := by
  rw [State.port, State.drainComplete_ports, State.port]

/-- The long-operation set loses the window (R181). -/
theorem Link.drainEnded_of_mem {l : Link} {w : WinId} (h : w ∈ l.longOp.windows) :
    (∀ x, x ∈ (l.drainEnded w).longOp.windows ↔ x ∈ l.longOp.windows ∧ x ≠ w) ∧
    ((l.drainEnded w).busy = true ↔ ∃ x ∈ l.longOp.windows, x ≠ w) ∧
    ((∀ x ∈ l.longOp.windows, x = w) → (l.drainEnded w).longOp.opcode = 0) := by
  simp only [Link.drainEnded, List.contains_iff_mem, h, if_true]
  refine ⟨fun x => by simp, ?_, fun hall => if_pos ?_⟩
  · simp [List.filter_eq_nil_iff]
  · simpa [List.filter_eq_nil_iff] using hall

/-- The rest of the link. -/
theorem Link.drainEnded_eq (l : Link) (w : WinId) :
    { l.drainEnded w with busy := l.busy, longOp := l.longOp } = l := by
  unfold Link.drainEnded
  split <;> rfl

/-- Settles O47: the entry by `drainBegun`, the end by the laws of `drainComplete`. -/
theorem drains : Obligations.Drains := by
  refine ⟨fun s w target h => ⟨s.drainBegun w target, ?_⟩, fun s w h => ?_⟩
  · have hw := s.drainBegun_win_same w target
    refine ⟨fun p => ?_, fun p => ?_, fun x hx => s.drainBegun_win_ne target hx, ?_, ?_, ?_, fun p => ?_, ?_, fun j rest hj => ?_,
      fun hj => ?_, ?_, ?_, s.drainEntry_eq w h⟩
    · rw [State.drainBegun_port]
      simp [refuseHeld, Entry.isHeldBy, Entry.answer]
    · rw [State.drainBegun_port]
    · rw [hw]; rfl
    · rw [hw]; rfl
    · rw [hw]; rfl
    · rw [State.claim, hw]
      simp [WinCtl.draining, WinCtl.cancelDeadlines, State.claim]
    · rw [hw]; rfl
    · rw [State.drainBegun_jobs, hj]; rfl
    · rw [State.drainBegun_jobs, hj]; rfl
    · rw [State.drainBegun_eq]
    · rw [State.drainBegun_eq]
  · refine ⟨s.drainComplete_eq w, ?_, fun i b hi => s.drainComplete_pool_same w hi, fun i hi => s.drainComplete_pool_other w hi,
      ?_, ?_⟩
    · rw [State.drainComplete_windows]
      cases hl : (s.win w).life <;> simp_all [Life.draining, Life.afterDrain, WinCtl.drained, ProducerRec.cleared]
    · rw [State.drainComplete_link]; exact Link.drainEnded_of_mem
    · rw [State.drainComplete_link]; exact Link.drainEnded_eq s.link w

end Sys2Proof.Machine
end

section
/-! ### The completion of a transaction's last part (R20, R138, R150) -/

namespace Sys2Proof.Machine

open Sys2Proof

set_option Elab.async false

/-! #### At the port -/

theorem modFirst_congr {α : Type} {test : α → Bool} {f g : α → α} {l : List α} {e : α} (h : l.find? test = some e)
    (hfg : f e = g e) : modFirst test f l = modFirst test g l := by
  induction l with
  | nil => rfl
  | cons x l ih =>
    by_cases hx : test x = true
    · simp only [List.find?_cons_of_pos hx, Option.some.injEq] at h
      subst h
      simp [modFirst, hx, hfg]
    · rw [List.find?_cons_of_neg hx] at h
      simp [modFirst, hx, ih h]

/-- The entry whose last part has completed (R138). -/
theorem Entry.partDone_last {e : Entry} (h : e.parts = 1) (o : Issue) (ok : Bool) (rdata : Burst) :
    e.partDone o ok rdata =
      { e with
        parts := 0
        errored := e.errored || !ok
        data := if o.kind = .read then placeBytes o.pos o.bytes rdata e.data else e.data
        state := .answered
        code := some (if e.errored || !ok then .fault else .okay) } := by
  cases hk : o.kind <;> simp [Entry.partDone, h, hk]

/-- The state when the oldest issue has left the outstanding-issue list (R150). -/
def State.issueRetired (s : State) : State := { s with mport := { s.mport with outstanding := s.mport.outstanding.tail } }

/-- A completion is that of the oldest issue (R150). -/
theorem exec_completion {s : State} {o : Issue} (hr : s.rstn = true) (ho : s.mport.outstanding.head? = some o) (ok : Bool)
    (rdata : Burst) : exec (.memoryCompletion ok rdata) s = .next (s.issueRetired.route o ok rdata) := by
  obtain ⟨rest, hrest⟩ := List.head?_eq_some_iff.mp ho
  simp only [exec, execMemoryCompletion, hr, hrest, State.issueRetired, List.tail_cons]

/-- A port's completion goes to the port (R150). -/
theorem State.route_port (s : State) {o : Issue} {p : PortId} (h : o.owner = requesterOf p) (ok : Bool) (rdata : Burst) :
    s.route o ok rdata = s.portCompletion p o ok rdata := by
  have hlt : o.owner.val < 4 := by rw [h]; exact p.isLt
  have hp : (⟨o.owner.val, hlt⟩ : PortId) = p := by simp only [h]; rfl
  rw [State.route, dif_pos hlt, hp]

/-- The state when the port has recorded a completion: the issue is gone and the entry it refers to is updated (R138, R150). -/
def State.partRecorded (s : State) (p : PortId) (o : Issue) (ok : Bool) (rdata : Burst) : State :=
  s.issueRetired.modEntries p (modFirst (Entry.isRef o.ref) (Entry.partDone o ok rdata))

/-- With its last part the window controller receives the completion of a transaction (R138, R150). -/
theorem exec_lastPart {s : State} {p : PortId} {o : Issue} {e : Entry} {w : WinId} (h : s.LastPart p o e)
    (hw : o.window = some w) (ok : Bool) (rdata : Burst) :
    exec (.memoryCompletion ok rdata) s = .next ((s.partRecorded p o ok rdata).windowDone w p (e.partDone o ok rdata)) := by
  have hentry : (s.issueRetired.port p).entries.find? (Entry.isRef o.ref) = some e := h.entry
  have hlast : e.parts ≤ 1 := h.last.le
  rw [exec_completion h.running h.oldest, State.route_port _ h.owner]
  simp only [State.portCompletion, hentry, hw, if_pos hlast, State.partRecorded]

/-- What the port records, in any state that keeps its ports and its memory port. -/
theorem State.completesEntry_of {s t : State} {p : PortId} {o : Issue} {e : Entry} (h : s.LastPart p o e) {ok : Bool}
    {rdata : Burst} (hp : t.ports = (s.partRecorded p o ok rdata).ports)
    (hm : t.mport = (s.partRecorded p o ok rdata).mport) : s.CompletesEntry t p o ok rdata := by
  have hport : ∀ q, t.port q = (s.partRecorded p o ok rdata).port q := fun q => by simp [State.port, hp]
  refine ⟨?_, fun q hq => ?_, hm⟩
  · rw [hport, State.partRecorded, State.port_modEntries_same]
    refine congrArg (fun es => PortUnit.mk es (s.port p).nextSerial) (modFirst_congr (e := e) h.entry ?_)
    exact Entry.partDone_last h.last o ok rdata
  · rw [hport, State.partRecorded, State.port_modEntries_ne _ _ hq]
    rfl

/-! #### At the window controller -/

/-- The end of a drain is looked for when a completion is counted down (R13, R21). -/
theorem State.opDone_of_draining {s : State} {w : WinId} (h : (s.win w).life.draining = true) :
    s.opDone w = if (s.win w).outstanding ≤ 1 then (s.opEnded w).drainComplete w else s.opEnded w := by
  have hlife : ((s.opEnded w).win w).life.draining = true := by simpa [State.opEnded] using h
  have hout : ((s.opEnded w).win w).outstanding = (s.win w).outstanding - 1 := by simp [State.opEnded]
  rw [State.opDone, State.drainCheck, hlife, hout]
  simp [Nat.sub_eq_zero_iff_le]

theorem State.writeError_faults (s : State) (w : WinId) (e : Entry) : (s.writeError w e).faults =
    if e.errored then
      (s.offer .memWriteError (some w) (some (s.cfg w).producer) (some (startGranule (s.cfg w) e.txn))).faults
    else s.faults := by
  unfold State.writeError
  split <;> rfl

theorem State.writeError_eq (s : State) (w : WinId) (e : Entry) :
    s.writeError w e = { s with faults := (s.writeError w e).faults } := by
  unfold State.writeError
  split <;> rfl

theorem State.readError_faults (s : State) (w : WinId) (p : PortId) (e : Entry) : (s.readError w p e).faults =
    if e.errored then (s.offer .memReadError (some w) (some p) (some (startGranule (s.cfg w) e.txn))).faults
    else s.faults := by
  unfold State.readError
  split <;> rfl

theorem State.readError_eq (s : State) (w : WinId) (p : PortId) (e : Entry) :
    s.readError w p e = { s with faults := (s.readError w p e).faults } := by
  unfold State.readError
  split <;> rfl

/-- A claim record written back leaves the state. -/
theorem State.modClaim_id (s : State) (w : WinId) (p : PortId) : s.modClaim w p id = s := by
  have hx : ∀ x : WinCtl, x.modClaim p id = x := fun x => by
    rw [WinCtl.modClaim, id, show x.claims.set p.val x.claims[p] = x.claims by simp]
  rw [State.modClaim, State.modWin, hx, show s.windows.set w.val s.windows[w] = s.windows by simp]

theorem Life.not_active_of_draining {x : Life} (h : x.draining = true) : x ≠ .active := by
  rintro rfl
  cases h

section
variable {s : State} {p : PortId} {o : Issue} {e : Entry} {w : WinId} {b : BankId} {ok : Bool} {rdata : Burst}

/-- A producer write completing while its window drains (R20). -/
theorem draining_write (hd : (s.win w).life.draining = true) (h : s.LastWrite p o e w b) :
    ∃ u, s.CompletesEntry u p o ok rdata ∧
      s.ChangesBank u w b { s.bank w b with winflight := (s.bank w b).winflight - 1 } ∧
      u.windows = s.windows.set w.val { s.win w with outstanding := (s.win w).outstanding - 1 } ∧
      u.faults =
        (if ok then s.faults
         else (s.offer .memWriteError (some w) (some (s.cfg w).producer) (some (startGranule (s.cfg w) e.txn))).faults) ∧
      { u with ports := s.ports, windows := s.windows, pool := s.pool, mport := s.mport, faults := s.faults } = s ∧
      exec (.memoryCompletion ok rdata) s =
        .next (if (s.win w).outstanding ≤ 1 then u.drainComplete w else u) := by
  set v := ((s.partRecorded p o ok rdata).writeLanded w b).writeError w (e.partDone o ok rdata) with hv
  have hveq : v = { (s.partRecorded p o ok rdata).writeLanded w b with faults := v.faults } := State.writeError_eq _ _ _
  have hvd : (v.win w).life.draining = true := by rw [hveq]; exact hd
  have hvout : (v.win w).outstanding = (s.win w).outstanding := by rw [hveq]; rfl
  refine ⟨v.opEnded w, State.completesEntry_of h.last ?_ ?_, ⟨?_, fun i hi => ?_⟩, ?_, ?_, ?_, ?_⟩
  · rw [hveq]; rfl
  · rw [hveq]; rfl
  · rw [hveq]
    exact (State.bank_modBank_same (s.partRecorded p o ok rdata) _ h.owned).trans rfl
  · rw [hveq]
    exact State.pool_modBank_ne (s.partRecorded p o ok rdata) _ i hi
  · rw [hveq]; rfl
  · rw [State.opEnded_faults, hv, State.writeError_faults, Entry.partDone_last h.last.last, h.good]
    cases ok <;> rfl
  · rw [hveq]; rfl
  · rw [exec_lastPart h.last h.window, ← hvout, ← State.opDone_of_draining hvd]
    have hdest : (e.partDone o ok rdata).dest = some b := by rw [Entry.partDone_last h.last.last]; exact h.dest
    have hkind : (e.partDone o ok rdata).txn.kind = .write := by rw [Entry.partDone_last h.last.last]; exact h.write
    have hlife : ((s.partRecorded p o ok rdata).win w).life ≠ .active := Life.not_active_of_draining hd
    simp only [State.windowDone, hkind, hdest, State.writeDone, if_neg hlife, ← hv]

/-- The window controller's part of a read's completion while its window drains, with the claim record k afterwards (R20). -/
theorem draining_read {f : Claim → Claim} (hd : (s.win w).life.draining = true) (h : s.LastRead p o e w)
    (hdone : (s.partRecorded p o ok rdata).windowDone w p (e.partDone o ok rdata) =
      (((s.partRecorded p o ok rdata).modClaim w p f).readError w p (e.partDone o ok rdata)).opDone w) :
    ∃ u, s.RecordsRead u p o e w (f (s.claim w p)) ok rdata ∧
      exec (.memoryCompletion ok rdata) s =
        .next (if (s.win w).outstanding ≤ 1 then u.drainComplete w else u) := by
  set v := ((s.partRecorded p o ok rdata).modClaim w p f).readError w p (e.partDone o ok rdata) with hv
  have hveq : v = { (s.partRecorded p o ok rdata).modClaim w p f with faults := v.faults } := State.readError_eq _ _ _ _
  have hwin : v.win w = ((s.partRecorded p o ok rdata).modClaim w p f).win w := by rw [hveq]; rfl
  rw [State.win_modClaim_same] at hwin
  have hvd : (v.win w).life.draining = true := by rw [hwin]; exact hd
  have hvout : (v.win w).outstanding = (s.win w).outstanding := by rw [hwin]; rfl
  refine ⟨v.opEnded w, ⟨State.completesEntry_of h.last ?_ ?_, ?_, ?_, ?_⟩, ?_⟩
  · rw [hveq]; rfl
  · rw [hveq]; rfl
  · have hwindows : (v.opEnded w).windows = (((s.partRecorded p o ok rdata).modClaim w p f).opEnded w).windows := by
      rw [hveq]; rfl
    rw [hwindows, State.opEnded, State.modClaim, State.modWin_modWin]
    rfl
  · rw [State.opEnded_faults, hv, State.readError_faults, Entry.partDone_last h.last.last]
    rfl
  · rw [hveq]; rfl
  · rw [exec_lastPart h.last h.window, ← hvout, ← State.opDone_of_draining hvd, hdone]

end

/-- Settles O35. -/
theorem drainingCompletion : Obligations.DrainingCompletion := by
  intro s p o e w ok rdata hd
  have hlife : ((s.partRecorded p o ok rdata).win w).life ≠ .active := Life.not_active_of_draining hd
  refine ⟨fun b h => draining_write hd h, fun h hp => ?_, fun h hp => ?_⟩
  · refine draining_read (f := fun k => { k with reads := k.reads - 1 }) hd h ?_
    have hkind : (e.partDone o ok rdata).txn.kind = .read := by rw [Entry.partDone_last h.last.last]; exact h.read
    have hprod : ¬ ((s.partRecorded p o ok rdata).cfg w).producer = p := hp
    simp only [State.windowDone, hkind, if_neg hprod, State.consumerReadDone, if_neg hlife]
  · refine draining_read (f := id) hd h ?_
    have hkind : (e.partDone o ok rdata).txn.kind = .read := by rw [Entry.partDone_last h.last.last]; exact h.read
    have hprod : ((s.partRecorded p o ok rdata).cfg w).producer = p := hp
    simp only [State.windowDone, hkind, if_pos hprod, State.producerReadDone, State.modClaim_id]

end Sys2Proof.Machine
end

section
/-! ### DISABLE, SUSPEND, RESUME (R15, R22, R184) -/

namespace Sys2Proof.Machine

open Sys2Proof

set_option Elab.async false

/-! #### A drain does not read what a frame leaves -/

/-- The state with another answer latch, receiver and record of outputs. -/
def State.withAnswer (s : State) (a : Answer) (x : Receiver) (o : Outputs) : State :=
  { s with link := { s.link with latch := a, receiver := x }, out := o }

theorem State.frameEnded_withAnswer (s : State) (n : Nat) :
    s.frameEnded n = s.withAnswer s.link.latch .idle { s.out with sdo := some ⟨s.link.latch, n⟩ } := rfl

theorem Link.drainEnded_withAnswer (l : Link) (a : Answer) (x : Receiver) (w : WinId) :
    Link.drainEnded { l with latch := a, receiver := x } w = { l.drainEnded w with latch := a, receiver := x } := by
  unfold Link.drainEnded
  dsimp only
  split <;> rfl

section
variable (s : State) (a : Answer) (x : Receiver) (o : Outputs) (w : WinId)

theorem State.refuseHolds_withAnswer : (s.withAnswer a x o).refuseHolds w = (s.refuseHolds w).withAnswer a x o := by
  rw [State.refuseHolds_def, State.refuseHolds_def]
  exact List.foldl_hom (g₁ := State.refuseHoldsAt w) (g₂ := State.refuseHoldsAt w) (fun s : State => s.withAnswer a x o)
    fun _ _ => rfl

theorem State.drainBegun_withAnswer (target : Life) :
    (s.withAnswer a x o).drainBegun w target = (s.drainBegun w target).withAnswer a x o := by
  rw [State.drainBegun, State.refuseHolds_withAnswer]
  rfl

theorem State.drainComplete_withAnswer : (s.withAnswer a x o).drainComplete w = (s.drainComplete w).withAnswer a x o := by
  rw [State.drainComplete_eq, State.drainComplete_link]
  have hlink := Link.drainEnded_withAnswer s.link a x w
  have hw : ((s.withAnswer a x o).drainComplete w).windows = (s.drainComplete w).windows := by
    rw [State.drainComplete_windows, State.drainComplete_windows]
    rfl
  have hp : ((s.withAnswer a x o).drainComplete w).pool = (s.drainComplete w).pool := by
    rw [State.drainComplete_pool, State.drainComplete_pool]
    rfl
  rw [hw, hp, State.drainComplete_eq s w, State.drainComplete_link]
  exact congrArg (fun l => State.mk _ _ _ _ _ _ _ _ l _ _) hlink

theorem State.drainEntry_withAnswer {target : Life} (h : target.draining = true) :
    (s.withAnswer a x o).drainEntry w target = (s.drainEntry w target).withAnswer a x o := by
  have hout : ((s.withAnswer a x o).win w).outstanding = (s.win w).outstanding := rfl
  rw [State.drainEntry_eq _ _ h, State.drainEntry_eq _ _ h, State.drainBegun_withAnswer, State.drainComplete_withAnswer, hout]
  split <;> rfl

end

/-- After the entry to a draining state the window drains exactly while operations are outstanding (R19, R21). -/
theorem State.drainEntry_draining (s : State) (w : WinId) {target : Life} (h : target.draining = true) :
    ((s.drainEntry w target).win w).life.draining = decide ((s.win w).outstanding ≠ 0) := by
  rw [State.drainEntry_eq _ _ h]
  by_cases ho : (s.win w).outstanding = 0
  · rw [if_pos ho, State.drainComplete_win_same, State.drainBegun_win_same]
    cases target <;> simp_all [Life.afterDrain, Life.draining, WinCtl.draining]
  · rw [if_neg ho, State.drainBegun_win_same]
    simp [WinCtl.draining, h, ho]

/-- A command that starts the drain of one ACTIVE window (R15, R19, R181, R184). -/
theorem exec_startsDrain {s : State} {c : Instr} {op : Byte} {run : State → Reply} {w : WinId} {target : Life}
    (hc : exec c s = .next (s.frame op run)) (h : s.LinkReady) (ht : target.draining = true)
    (hrun : run (s.frameEnded Config.frameClocks) =
      (((s.frameEnded Config.frameClocks).drainEntry w target).recordLongOp op [w]).reply .done) :
    ∃ t, exec c s = .next t ∧ s.Answered t op .done [] ∧
      { s.apartFromAnswer t with
        link := { (s.apartFromAnswer t).link with busy := s.link.busy, longOp := s.link.longOp } } =
        { s.drainEntry w target with
          link := { (s.drainEntry w target).link with busy := s.link.busy, longOp := s.link.longOp } } ∧
      t.link.longOp = ⟨op, if (s.win w).outstanding = 0 then [] else [w]⟩ ∧
      (t.link.busy = true ↔ (s.win w).outstanding ≠ 0) := by
  have hbase := State.base_drainEntry (s.frameEnded Config.frameClocks) w target
  obtain ⟨he, ha⟩ := exec_answered hc h.receives (.inl h.idle) hrun
    (congrArg Base.receiver hbase) (congrArg Base.out hbase)
  have hleft : ([w].filter fun x => (((s.frameEnded Config.frameClocks).drainEntry w target).win x).life.draining) =
      if (s.win w).outstanding = 0 then [] else [w] := by
    have hd := State.drainEntry_draining (s.frameEnded Config.frameClocks) w ht
    rw [State.frameEnded_win] at hd
    by_cases ho : (s.win w).outstanding = 0 <;> simp [hd, ho]
  refine ⟨_, he, ha, ?_, congrArg (LongOp.mk op) hleft, ?_⟩
  · have hs := State.base_drainEntry s w target
    have hlatch : s.link.latch = (s.drainEntry w target).link.latch := (congrArg Base.latch hs).symm
    have hrec : s.link.receiver = (s.drainEntry w target).link.receiver := (congrArg Base.receiver hs).symm
    have hout : s.out = (s.drainEntry w target).out := (congrArg Base.out hs).symm
    rw [State.apartFromAnswer_setLatch, State.frameEnded_withAnswer, State.drainEntry_withAnswer _ _ _ _ _ ht]
    simp only [State.apartFromAnswer, State.recordLongOp, State.withAnswer]
    rw [hout, hlatch, hrec]
  · simp only [State.setLatch, State.recordLongOp, hleft]
    by_cases ho : (s.win w).outstanding = 0 <;> simp [ho]

/-- DISABLE of a SUSPENDED window: OFF, its records returned to the pool (R8, R22). -/
theorem disable_suspended {s : State} {r : LinkReq} {w : WinId} (h : s.LinkReady) (hw : r.window.toNat = w.val)
    (hl : (s.win w).life = .suspended) :
    ∃ t, exec (.disable r) s = .next t ∧ s.Answered t 0x21 .done [] ∧
      t.windows = s.windows.set w.val { s.win w with life := .off } ∧
      (∀ i : RecId, t.pool[i] =
        if (∃ b, s.pool[i].owner = some (w, b)) then { s.pool[i] with owner := none } else s.pool[i]) ∧
      { s.apartFromAnswer t with windows := s.windows, pool := s.pool } = s := by
  obtain ⟨he, ha⟩ := exec_answered (s := s) (c := .disable r)
    (u := ((s.frameEnded Config.frameClocks).modWin w fun x => { x with life := .off }).freeBanks w) rfl
    h.receives (.inl h.idle) (x := .done) (data := [])
    (by simp [State.cmdDisable, State.withWindow_of hw, hl, State.reply]) rfl rfl
  refine ⟨_, he, ha, rfl, fun i => ?_, rfl⟩
  simp only [← BankRec.ownedBy_iff]
  exact State.freeBanks_pool _ w i

/-- Settles O48. -/
theorem lifecycleCommands : Obligations.LifecycleCommands := by
  intro s r w h hw
  refine ⟨fun hl => ⟨?_, ?_⟩, fun hl => ⟨disable_suspended h hw hl, ?_⟩, fun ha hs => ?_, fun ha => ?_, fun hs => ?_⟩
  · exact exec_startsDrain rfl h rfl (by simp [State.cmdDisable, State.withWindow_of hw, hl])
  · exact exec_startsDrain rfl h rfl (by simp [State.cmdSuspend, State.withWindow_of hw, hl])
  · obtain ⟨he, ha⟩ := exec_answered (s := s) (c := .resume r)
      (u := (s.frameEnded Config.frameClocks).modWin w fun x => { x with life := .active }) rfl
      h.receives (.inl h.idle) (x := .done) (data := [])
      (by simp [State.cmdResume, State.withWindow_of hw, hl, State.reply]) rfl rfl
    exact ⟨_, he, ha, rfl⟩
  · refine exec_answered_only rfl h.receives (.inl h.idle) ?_
    cases hl : (s.win w).life <;> simp_all [State.cmdDisable, State.withWindow_of hw, State.reply]
  · exact exec_answered_only rfl h.receives (.inl h.idle)
      (by simp [State.cmdSuspend, State.withWindow_of hw, ha, State.reply])
  · exact exec_answered_only rfl h.receives (.inl h.idle)
      (by simp [State.cmdResume, State.withWindow_of hw, hs, State.reply])

end Sys2Proof.Machine
end

section
/-! ### SESSION CLEAR (R24): the entries of several windows, one after the other -/

namespace Sys2Proof.Machine

open Sys2Proof

set_option Elab.async false

/-- A controller after a restart: draining, or ACTIVE again with nothing outstanding (R19, R21, R24). -/
def WinCtl.restarted (x : WinCtl) (held : Nat) : WinCtl :=
  if x.outstanding = 0 then { (x.draining held .restarting).drained with life := .active } else x.draining held .restarting

/-- The job list after the jobs of several windows have been aborted (R81, R82). -/
def abortJobs (ws : List WinId) : List Job → List Job
  | [] => []
  | j :: rest =>
    (if j.window ∈ ws then { j with aborted := true } else j) :: rest.filter fun k => decide (k.window ∉ ws)

/-- The entries of a port after the transactions held by several windows have been refused (R19). -/
def refuseHeldBy (ws : List WinId) (es : List Entry) : List Entry :=
  es.map fun e => if e.state = .held ∧ ∃ w ∈ ws, e.holdwin = some w then e.answer .refused [] else e

/-- State t with the blocks that a drain changes as in s: ports, controllers, pool, job list and long-operation record. -/
def State.apartFromDrain (s t : State) : State :=
  { t with
    ports := s.ports, windows := s.windows, pool := s.pool, engine := { t.engine with jobs := s.engine.jobs }
    link := { t.link with busy := s.link.busy, longOp := s.link.longOp } }

/-- State t is state s after the restart of the windows of a list. -/
structure State.Restarts (s t : State) (ws : List WinId) : Prop where
  port : ∀ p, t.port p = { s.port p with entries := refuseHeldBy ws (s.port p).entries }
  win : ∀ w ∈ ws, t.win w = (s.win w).restarted (s.holdTotal w)
  otherWin : ∀ x, x ∉ ws → t.win x = s.win x
  pool : ∀ (i : RecId) (w : WinId) (b : BankId), w ∈ ws → s.pool[i].owner = some (w, b) → (s.win w).outstanding = 0 →
    t.pool[i] = BankRec.initial (some (w, b)) s.pool[i].pbase
  otherPool : ∀ i : RecId, (∀ (w : WinId) (b : BankId), w ∈ ws → s.pool[i].owner = some (w, b) → (s.win w).outstanding ≠ 0) →
    t.pool[i] = s.pool[i]
  jobs : t.engine.jobs = abortJobs ws s.engine.jobs
  rest : s.apartFromDrain t = s

/-! #### The first of the windows -/

theorem refuseHeld_eq (w : WinId) (es : List Entry) : refuseHeld w es = refuseHeldBy [w] es := by
  simp [refuseHeld, refuseHeldBy, Entry.isHeldBy]

theorem abortJob_eq (w : WinId) (js : List Job) : abortJob w js = abortJobs [w] js := by
  cases js <;> simp [abortJob, abortJobs]

theorem WinCtl.restarted_of_drainEntry (s : State) (w : WinId) :
    (s.drainEntry w .restarting).win w = (s.win w).restarted (s.holdTotal w) := by
  rw [State.drainEntry_eq _ _ rfl, WinCtl.restarted]
  split
  · rw [State.drainComplete_win_same, State.drainBegun_win_same]; rfl
  · rw [State.drainBegun_win_same]

/-- The pool is as it was when the drain begins. -/
theorem State.drainBegun_pool (s : State) (w : WinId) (target : Life) : (s.drainBegun w target).pool = s.pool := by
  rw [State.drainBegun_eq]

theorem State.drainBegun_link (s : State) (w : WinId) (target : Life) : (s.drainBegun w target).link = s.link := by
  rw [State.drainBegun_eq]

/-- The records of a restarted window: the values of R9 with nothing outstanding. -/
theorem State.drainEntry_pool_same (s : State) (w : WinId) {i : RecId} {b : BankId} (h : s.pool[i].owner = some (w, b))
    (ho : (s.win w).outstanding = 0) :
    (s.drainEntry w .restarting).pool[i] = BankRec.initial (some (w, b)) s.pool[i].pbase := by
  rw [State.drainEntry_eq _ _ rfl, if_pos ho, State.drainComplete_pool_same (b := b)]
  · rw [State.drainBegun_win_same, State.drainBegun_pool]; rfl
  · rw [State.drainBegun_pool, h]

/-- The other records, and those of a window that drains on. -/
theorem State.drainEntry_pool_other (s : State) (w : WinId) {i : RecId}
    (h : ∀ b, s.pool[i].owner = some (w, b) → (s.win w).outstanding ≠ 0) :
    (s.drainEntry w .restarting).pool[i] = s.pool[i] := by
  rw [State.drainEntry_eq _ _ rfl]
  by_cases ho : (s.win w).outstanding = 0
  · rw [if_pos ho, State.drainComplete_pool_other, State.drainBegun_pool]
    intro b hb
    rw [State.drainBegun_pool] at hb
    exact h b hb ho
  · rw [if_neg ho, State.drainBegun_pool]

theorem State.drainEntry_port (s : State) (w : WinId) {target : Life} (h : target.draining = true) (p : PortId) :
    (s.drainEntry w target).port p = { s.port p with entries := refuseHeld w (s.port p).entries } := by
  rw [State.drainEntry_eq _ _ h]
  split
  · rw [State.drainComplete_port, State.drainBegun_port]
  · rw [State.drainBegun_port]

theorem State.drainEntry_win_ne (s : State) {w x : WinId} {target : Life} (h : target.draining = true) (hx : x ≠ w) :
    (s.drainEntry w target).win x = s.win x := by
  rw [State.drainEntry_eq _ _ h]
  split
  · rw [State.drainComplete_win_ne _ hx, State.drainBegun_win_ne _ _ hx]
  · rw [State.drainBegun_win_ne _ _ hx]

theorem State.drainEntry_jobs (s : State) (w : WinId) {target : Life} (h : target.draining = true) :
    (s.drainEntry w target).engine.jobs = abortJob w s.engine.jobs := by
  rw [State.drainEntry_eq _ _ h]
  split
  · rw [State.drainComplete_engine, State.drainBegun_jobs]
  · rw [State.drainBegun_jobs]

theorem State.apartFromDrain_drainComplete (s t : State) (w : WinId) :
    s.apartFromDrain (t.drainComplete w) = s.apartFromDrain t := by
  rw [State.drainComplete_eq, State.drainComplete_link]
  unfold Link.drainEnded
  split <;> rfl

theorem State.apartFromDrain_drainBegun (s : State) (w : WinId) (target : Life) :
    s.apartFromDrain (s.drainBegun w target) = s := by
  rw [State.drainBegun_eq]
  rfl

/-- What a drain's entry changes: ports, controllers, pool, job list and long-operation record alone. -/
theorem State.drainEntry_rest (s : State) (w : WinId) {target : Life} (h : target.draining = true) :
    s.apartFromDrain (s.drainEntry w target) = s := by
  rw [State.drainEntry_eq _ _ h]
  split
  · rw [State.apartFromDrain_drainComplete, State.apartFromDrain_drainBegun]
  · rw [State.apartFromDrain_drainBegun]

theorem State.restarts_drainEntry (s : State) (w : WinId) : s.Restarts (s.drainEntry w .restarting) [w] where
  port p := by rw [State.drainEntry_port _ _ rfl, refuseHeld_eq]
  win x hx := by
    rw [List.mem_singleton] at hx
    subst hx
    exact WinCtl.restarted_of_drainEntry s x
  otherWin x hx := s.drainEntry_win_ne rfl fun e => hx (List.mem_singleton.mpr e)
  pool i x b hx hi ho := by
    rw [List.mem_singleton] at hx
    subst hx
    exact s.drainEntry_pool_same x hi ho
  otherPool i hi := s.drainEntry_pool_other w fun b hb => hi w b (List.mem_singleton.mpr rfl) hb
  jobs := by rw [State.drainEntry_jobs _ _ rfl, abortJob_eq]
  rest := s.drainEntry_rest w rfl

/-! #### One window after the other -/

/-- Refusals at one window leave what another holds. -/
theorem heldCount_refuseHeld {w x : WinId} (h : x ≠ w) (es : List Entry) :
    ((refuseHeld w es).filter (Entry.isHeldBy x)).length = (es.filter (Entry.isHeldBy x)).length := by
  rw [refuseHeld, List.filter_map, List.length_map]
  congr 1
  refine List.filter_congr fun e _ => ?_
  have hne : e.holdwin = some w → e.holdwin ≠ some x := fun e1 e2 => h (Option.some.inj (e2.symm.trans e1))
  by_cases hw : e.state = .held ∧ e.holdwin = some w
  · simp [Entry.isHeldBy, hw.1, hw.2, Entry.answer, h.symm]
  · simp only [Function.comp, Entry.isHeldBy, ← Bool.decide_and, hw, decide_false, Bool.false_eq_true, if_false]

theorem State.holdTotal_drainEntry (s : State) {w x : WinId} (h : x ≠ w) :
    (s.drainEntry w .restarting).holdTotal x = s.holdTotal x := by
  unfold State.holdTotal
  refine congrArg List.sum (List.map_congr_left fun p _ => ?_)
  rw [State.heldCount, State.drainEntry_port _ _ rfl]
  exact heldCount_refuseHeld h _

theorem refuseHeldBy_cons (w : WinId) (ws : List WinId) (es : List Entry) :
    refuseHeldBy ws (refuseHeldBy [w] es) = refuseHeldBy (w :: ws) es := by
  simp only [refuseHeldBy, List.map_map]
  refine List.map_congr_left fun e _ => ?_
  by_cases hh : e.state = .held <;> by_cases hw : e.holdwin = some w <;> simp [hh, hw, Entry.answer]

theorem abortJobs_cons (w : WinId) (ws : List WinId) (js : List Job) :
    abortJobs ws (abortJobs [w] js) = abortJobs (w :: ws) js := by
  cases js with
  | nil => rfl
  | cons j rest =>
    simp only [abortJobs, List.filter_filter]
    refine congrArg₂ _ ?_ (List.filter_congr fun k _ => by simp [Bool.and_comm])
    by_cases hw : j.window = w <;> by_cases hm : j.window ∈ ws <;> simp_all

/-- The restart of a further window, before the others. -/
theorem State.Restarts.cons {s t : State} {w : WinId} {ws : List WinId} (hw : w ∉ ws)
    (h : (s.drainEntry w .restarting).Restarts t ws) : s.Restarts t (w :: ws) := by
  have h1 := s.restarts_drainEntry w
  refine ⟨fun p => ?_, fun x hx => ?_, fun x hx => ?_, fun i x b hx hi ho => ?_, fun i hi => ?_, ?_, ?_⟩
  · rw [h.port, h1.port, refuseHeldBy_cons]
  · by_cases hxw : x = w
    · subst hxw
      rw [h.otherWin x hw, h1.win x (List.mem_singleton.mpr rfl)]
    · have hxs : x ∈ ws := (List.mem_cons.mp hx).resolve_left hxw
      rw [h.win x hxs, State.drainEntry_win_ne _ rfl hxw, State.holdTotal_drainEntry _ hxw]
  · rw [List.mem_cons, not_or] at hx
    rw [h.otherWin x hx.2, State.drainEntry_win_ne _ rfl hx.1]
  · by_cases hxw : x = w
    · subst hxw
      have hi1 := h1.pool i x b (List.mem_singleton.mpr rfl) hi ho
      rw [h.otherPool i, hi1]
      intro y c hy hc
      rw [hi1] at hc
      cases hc
      exact absurd hy hw
    · have hxs : x ∈ ws := (List.mem_cons.mp hx).resolve_left hxw
      have hi1 : (s.drainEntry w .restarting).pool[i] = s.pool[i] := s.drainEntry_pool_other w fun c hc => by
        rw [hi] at hc
        cases hc
        exact absurd rfl hxw
      rw [h.pool i x b hxs (by rw [hi1, hi]) (by rw [State.drainEntry_win_ne _ rfl hxw, ho]), hi1]
  · have hi1 : (s.drainEntry w .restarting).pool[i] = s.pool[i] :=
      s.drainEntry_pool_other w fun c hc => hi w c List.mem_cons_self hc
    rw [h.otherPool i, hi1]
    intro y c hy hc
    have hyw : y ≠ w := fun e => hw (e ▸ hy)
    rw [State.drainEntry_win_ne _ rfl hyw]
    exact hi y c (List.mem_cons_of_mem _ hy) (hi1 ▸ hc)
  · rw [h.jobs, h1.jobs, abortJobs_cons]
  · calc s.apartFromDrain t = s.apartFromDrain ((s.drainEntry w .restarting).apartFromDrain t) := rfl
      _ = s.apartFromDrain (s.drainEntry w .restarting) := by rw [h.rest]
      _ = s := h1.rest

theorem State.restarts_nil (s : State) : s.Restarts s [] where
  port p := by simp [refuseHeldBy]
  win w hw := by cases hw
  otherWin x _ := rfl
  pool i w b hw := by cases hw
  otherPool i _ := rfl
  jobs := by cases s.engine.jobs <;> simp [abortJobs]
  rest := rfl

/-- Restarts in a row (R24). -/
theorem State.restarts_foldl (ws : List WinId) (hws : ws.Nodup) (s : State) :
    s.Restarts (ws.foldl (fun s w => s.drainEntry w .restarting) s) ws := by
  induction ws generalizing s with
  | nil => exact s.restarts_nil
  | cons w ws ih =>
    obtain ⟨hw, hws⟩ := List.nodup_cons.mp hws
    exact State.Restarts.cons hw (ih hws _)

/-! #### The command -/

/-- A restarted window still drains exactly while operations are outstanding. -/
theorem WinCtl.restarted_draining (x : WinCtl) (held : Nat) :
    (x.restarted held).life.draining = decide (x.outstanding ≠ 0) := by
  unfold WinCtl.restarted
  by_cases h : x.outstanding = 0 <;> simp [h, Life.draining, WinCtl.draining]

theorem State.mem_activeWindows (s : State) (w : WinId) : w ∈ s.activeWindows ↔ (s.win w).life = .active := by
  simp [State.activeWindows]

/-- Settles O49: SESSION CLEAR restarts the list of the ACTIVE windows. -/
theorem sessionClearRestarts : Obligations.SessionClearRestarts := by
  intro s r h
  set u := (s.frameEnded Config.frameClocks).activeWindows.foldl (fun s w => s.drainEntry w .restarting)
    (s.frameEnded Config.frameClocks) with hu
  have hmem : ∀ w, w ∈ (s.frameEnded Config.frameClocks).activeWindows ↔ (s.win w).life = .active :=
    (s.frameEnded Config.frameClocks).mem_activeWindows
  have hr : (s.frameEnded Config.frameClocks).Restarts u (s.frameEnded Config.frameClocks).activeWindows :=
    State.restarts_foldl _ ((List.nodup_finRange 16).filter _) _
  have hbase : u.base = (s.frameEnded Config.frameClocks).base := State.base_foldl _ (fun s w => State.base_drainEntry s w _) _ _
  obtain ⟨he, ha⟩ := exec_answered (s := s) (c := .sessionClear r)
    (u := u.recordLongOp 0x24 (s.frameEnded Config.frameClocks).activeWindows) rfl h.receives (.inl h.idle) (x := .done) (data := [])
    rfl (congrArg Base.receiver hbase) (congrArg Base.out hbase)
  set t := (u.recordLongOp 0x24 (s.frameEnded Config.frameClocks).activeWindows).setLatch ⟨.done, 0x24, dataOf []⟩ with ht
  have hwin : ∀ w, (s.win w).life = .active → t.win w = (s.win w).restarted (s.holdTotal w) :=
    fun w hw => hr.win w ((hmem w).mpr hw)
  refine ⟨t, he, ha, fun p => ?_, fun w hw => ?_, fun w hw => ⟨?_, fun ho => ⟨?_, fun p => ?_, ?_⟩, fun ho => ?_⟩,
    fun i w b hi hw ho => ?_, fun i hi => ?_, fun j rest hj => ?_, fun hj => ?_, ?_, fun w => ?_, rfl, ?_, ?_⟩
  · refine (hr.port p).trans (congrArg (fun es => PortUnit.mk es (s.port p).nextSerial) (List.map_congr_left fun e _ => ?_))
    simp only [hmem]
    cases e.holdwin <;> simp [Entry.answer, and_comm]
  · exact hr.otherWin w fun hm => hw ((hmem w).mp hm)
  · rw [hwin w hw, WinCtl.restarted]
    split <;> rfl
  · rw [hwin w hw, WinCtl.restarted, if_neg ho]
    rfl
  · rw [State.claim, hwin w hw, WinCtl.restarted, if_neg ho]
    exact mapVec_getElem_fin _ _ p
  · rw [hwin w hw, WinCtl.restarted, if_neg ho]
    rfl
  · rw [hwin w hw, WinCtl.restarted, if_pos ho]
    simp [WinCtl.draining, WinCtl.drained, WinCtl.cancelDeadlines, ProducerRec.cleared, hw]
  · exact hr.pool i w b ((hmem w).mpr hw) hi ho
  · exact hr.otherPool i fun w b hw hb => (hi w b hb).resolve_left (not_not.mpr ((hmem w).mp hw))
  · refine hr.jobs.trans ((congrArg (abortJobs _) hj).trans ?_)
    simp only [abortJobs, hmem]
  · exact hr.jobs.trans (congrArg (abortJobs _) hj)
  · exact (congrArg (fun v : State => v.engine.buffer) hr.rest :)
  · have hdrain : ∀ w, (s.win w).life = .active → (u.win w).life.draining = decide ((s.win w).outstanding ≠ 0) :=
      fun w hw => (congrArg (fun x : WinCtl => x.life.draining) (hwin w hw)).trans (WinCtl.restarted_draining _ _)
    simp only [ht, State.setLatch, State.recordLongOp, List.mem_filter, hmem]
    exact and_congr_right fun hw => by simp [hdrain w hw]
  · simp [ht, State.setLatch, State.recordLongOp]
  · calc _ = { s.apartFromAnswer ((s.frameEnded Config.frameClocks).apartFromDrain u) with engine := s.engine } := rfl
      _ = s := by rw [hr.rest]; rfl

end Sys2Proof.Machine
end

section
/-! ### What a step can do

One inversion for the requests of the management link, one for the commands and one for a step; the invariants below are derived
from them. -/

namespace Sys2Proof.Machine

open Sys2Proof

set_option Elab.async false

@[simp] theorem State.recordLongOp_windows (s : State) (op : Byte) (ws : List WinId) :
    (s.recordLongOp op ws).windows = s.windows := rfl
@[simp] theorem State.recordLongOp_pool (s : State) (op : Byte) (ws : List WinId) : (s.recordLongOp op ws).pool = s.pool := rfl
@[simp] theorem State.recordLongOp_engine (s : State) (op : Byte) (ws : List WinId) :
    (s.recordLongOp op ws).engine = s.engine := rfl
@[simp] theorem State.base_recordLongOp (s : State) (op : Byte) (ws : List WinId) : (s.recordLongOp op ws).base = s.base := rfl

/-- The restart of every ACTIVE window keeps the base. -/
theorem State.base_restartAll (s : State) (ws : List WinId) :
    (ws.foldl (fun s w => s.drainEntry w .restarting) s).base = s.base :=
  State.base_foldl _ (fun s w => State.base_drainEntry s w .restarting) ws s

/-- What the execution of a request can make of the state: the read commands and the refused ones leave it, and each other
command has the effect of its rule (11.3). -/
inductive State.Request (s : State) : State → Prop
  | unchanged : s.Request s
  | stage (w : WinId) (c : WindowRec) (off : (s.win w).life = .off) : s.Request (s.stage w c)
  | enable (w : WinId) (off : (s.win w).life = .off) (valid : s.invalidReason w = none) : s.Request (s.enableWindow w)
  | drain (w : WinId) (target : Life) (op : Byte) (active : (s.win w).life = .active) (draining : target.draining = true) :
      s.Request ((s.drainEntry w target).recordLongOp op [w])
  | retire (w : WinId) (suspended : (s.win w).life = .suspended) :
      s.Request ((s.modWin w fun x => { x with life := .off }).freeBanks w)
  | resume (w : WinId) (suspended : (s.win w).life = .suspended) : s.Request (s.modWin w fun x => { x with life := .active })
  | restart : s.Request ((s.activeWindows.foldl (fun s w => s.drainEntry w .restarting) s).recordLongOp 0x24 s.activeWindows)
  | clearCounters (w : WinId) : s.Request (s.modWin w fun x => { x with commits := 0, drops := 0, refusals := 0, expiries := 0 })
  | prescale (p : Nat) (range : 1 ≤ p ∧ p ≤ Config.prescalerMax) : s.Request { s with time := { s.time with p := p } }
  | mask (m : BitVec 3) : s.Request { s with faults := { s.faults with mask := m } }
  | pop (x : FaultRec) (rest : List FaultRec) (queue : s.faults.queue = x :: rest) :
      s.Request { s with faults := { s.faults with queue := rest } }
  | clearFaults : s.Request { s with faults := { s.faults with queue := [], overrun := 0 } }

/-- A command that names a window acts on one of the sixteen or is answered BADWINDOW. -/
theorem State.request_withWindow {s : State} {r : LinkReq} {run : WinId → Reply} (h : ∀ w, s.Request (run w).state) :
    s.Request (s.withWindow r run).state := by
  unfold State.withWindow
  split
  · exact h _
  · exact .unchanged

section
variable (s : State) (r : LinkReq)

theorem State.request_stageWrite : s.Request (s.cmdStageWrite r).state := by
  refine State.request_withWindow fun w => ?_
  split
  · exact .unchanged
  · split
    · next hoff => exact .stage w _ hoff
    · exact .unchanged

theorem State.request_stageRead : s.Request (s.cmdStageRead r).state := by
  refine State.request_withWindow fun w => ?_
  split <;> exact .unchanged

theorem State.request_enable : s.Request (s.cmdEnable r).state := by
  refine State.request_withWindow fun w => ?_
  split
  · exact .unchanged
  · next hoff =>
    split
    · exact .unchanged
    · next hv => exact .enable w (not_not.mp hoff) hv

theorem State.request_disable : s.Request (s.cmdDisable r).state := by
  refine State.request_withWindow fun w => ?_
  split
  · next hl => exact .drain w .retiring _ hl rfl
  · next hl => exact .retire w hl
  all_goals exact .unchanged

theorem State.request_suspend : s.Request (s.cmdSuspend r).state := by
  refine State.request_withWindow fun w => ?_
  split
  · next hl => exact .drain w .suspending _ hl rfl
  · exact .unchanged

theorem State.request_resume : s.Request (s.cmdResume r).state := by
  refine State.request_withWindow fun w => ?_
  split
  · next hl => exact .resume w hl
  · exact .unchanged

theorem State.request_windowRead : s.Request (s.cmdWindowRead r).state := by
  refine State.request_withWindow fun w => ?_
  split <;> exact .unchanged

theorem State.request_bankRead : s.Request (s.cmdBankRead r).state := by
  refine State.request_withWindow fun w => ?_
  split_ifs <;> exact .unchanged

theorem State.request_claimRead : s.Request (s.cmdClaimRead r).state := by
  refine State.request_withWindow fun w => ?_
  split
  · split <;> exact .unchanged
  · exact .unchanged

theorem State.request_portRead : s.Request (s.cmdPortRead r).state := by
  unfold State.cmdPortRead
  split <;> exact .unchanged

theorem State.request_counterRead : s.Request (s.cmdCounterRead r).state := by
  refine State.request_withWindow fun w => ?_
  split <;> exact .unchanged

theorem State.request_counterClear : s.Request (s.cmdCounterClear r).state :=
  State.request_withWindow fun w => .clearCounters w

theorem State.request_prescale : s.Request (s.cmdPrescale r).state := by
  unfold State.cmdPrescale
  split
  · next h => exact .prescale _ h
  · exact .unchanged

theorem State.request_maskWrite : s.Request (s.cmdMaskWrite r).state := by
  unfold State.cmdMaskWrite
  split
  · exact .mask _
  · exact .unchanged

theorem State.request_faultPeek : s.Request (s.cmdFaultPeek r).state := by
  unfold State.cmdFaultPeek
  split
  · exact .unchanged
  · split <;> exact .unchanged

theorem State.request_faultPop : s.Request (s.cmdFaultPop r).state := by
  unfold State.cmdFaultPop
  split
  · exact .unchanged
  · split
    · exact .unchanged
    · next hq => exact .pop _ _ hq

/-- What a request of any opcode can do (R180, 11.3). -/
theorem State.request_runOpcode (op : Byte) : s.Request (s.runOpcode op r).state := by
  unfold State.runOpcode
  split
  · exact .unchanged
  · exact s.request_stageWrite r
  · exact s.request_stageRead r
  · exact s.request_enable r
  · exact s.request_disable r
  · exact s.request_suspend r
  · exact s.request_resume r
  · exact .restart
  · exact s.request_windowRead r
  · exact s.request_bankRead r
  · exact s.request_claimRead r
  · exact s.request_portRead r
  · exact s.request_counterRead r
  · exact s.request_counterClear r
  · exact s.request_faultPeek r
  · exact s.request_faultPop r
  · exact .clearFaults
  · exact .unchanged
  · exact s.request_prescale r
  · exact s.request_maskWrite r
  · exact .unchanged

end

/-- What a frame, complete or not, can do: a request between two changes of the latch, the receiver and the record of outputs. -/
inductive State.FrameEvent (s : State) : State → Prop
  | intro (a : Answer) (x : Receiver) (o : Outputs) (u : State) (a' : Answer) (x' : Receiver) (o' : Outputs)
      (request : (s.withAnswer a x o).Request u) : s.FrameEvent (u.withAnswer a' x' o')

/-- A frame that executes nothing. -/
theorem State.FrameEvent.answer (s : State) (a : Answer) (x : Receiver) (o : Outputs) : s.FrameEvent (s.withAnswer a x o) :=
  .intro s.link.latch s.link.receiver s.out s a x o .unchanged

theorem State.frameEvent_executeRequest (s : State) (a : Answer) (x : Receiver) (o : Outputs) (op : Byte) (r : LinkReq) :
    s.FrameEvent ((s.withAnswer a x o).executeRequest op fun t => t.runOpcode op r) := by
  unfold State.executeRequest
  split
  · exact .answer s _ x o
  · exact .intro a x o _ _ _ _ ((s.withAnswer a x o).request_runOpcode r op)

theorem State.frameEvent_frame (s : State) (op : Byte) (r : LinkReq) :
    s.FrameEvent (s.frame op fun t => t.runOpcode op r) := by
  unfold State.frame
  split
  · exact s.frameEvent_executeRequest _ _ _ op r
  · split
    · exact .answer s _ _ _
    · exact .answer s _ _ _

theorem State.frameEvent_serialFrame (s : State) (bits : List Bool) : s.FrameEvent (s.serialFrame bits) := by
  unfold State.serialFrame State.csnRise
  dsimp only
  split
  · exact .answer s _ _ _
  · split
    · exact s.frameEvent_executeRequest _ _ _ _ _
    · exact .answer s _ _ _

/-- What a command can do. -/
inductive State.Event (s : State) : State → Prop
  | unchanged : s.Event s
  | fall : s.Event
      { s with
        rstn := false
        ports := Vector.replicate 4 .reset
        windows := mapVec WinCtl.inReset s.windows
        pool := mapVec (fun r => { r with owner := none }) s.pool
        engine := { s.engine with jobs := [] }
        mport := .reset
        time := { s.time with stamp := 0, phase := 0 }
        link := s.link.inReset }
  | release (csnLow : Bool) (low : s.rstn = false) :
      s.Event { State.reset with link := Link.released csnLow, pending := s.pending }
  | accept (p : PortId) (t : Txn) (accepts : s.accepts p = true) :
      s.Event { s with ports := s.ports.set p.val (s.ports[p].accept t) }
  | dispatch (p : PortId) (e : Entry) (dispatchable : s.dispatchable p = some e) :
      s.Event ((s.treat p e).1.settle p (s.treat p e).2)
  | respond (p : PortId) (e : Entry) (rest : List Entry) (front : (s.port p).entries = e :: rest)
      (answered : e.state = .answered) (x : Vector (Option Response) 4) :
      s.Event { s.modEntries p (fun _ => rest) with out := { s.out with responses := x } }
  | grant (r : Requester) (room : s.mport.outstanding.length < Config.outstandingMax) : s.Event (s.grantTo r)
  | complete (o : Issue) (ok : Bool) (rdata : Burst) (oldest : s.mport.outstanding.head? = some o) :
      s.Event (s.issueRetired.route o ok rdata)
  | increment : s.Event s.increment
  | deadline (d : Deadline) : s.Event (s.takeDeadline d)
  | frame (t : State) (h : s.FrameEvent t) : s.Event t

/-- Every command completes as one of these events. -/
theorem exec_event (c : Instr) (s : State) : ∃ t, exec c s = .next t ∧ s.Event t := by
  by_cases ho : opcodeOf c = none
  · cases c with
    | rstnAssert => exact ⟨_, rfl, .fall⟩
    | rstnRelease csnLow =>
      refine ⟨_, rfl, ?_⟩
      split
      · exact .unchanged
      · next h => exact .release csnLow (Bool.not_eq_true _ ▸ h)
    | accept p t =>
      refine ⟨_, rfl, ?_⟩
      split
      · next h => exact .accept p t h
      · exact .unchanged
    | dispatch p =>
      refine ⟨_, rfl, ?_⟩
      split
      · exact .unchanged
      · next h => exact .dispatch p _ h
    | responseReturn p =>
      refine ⟨_, rfl, ?_⟩
      split
      · next hentries =>
        split
        · next hstate _ => exact .respond p _ _ hentries hstate _
        · exact .unchanged
      · exact .unchanged
    | grant =>
      refine ⟨_, rfl, ?_⟩
      split
      · next h =>
        split
        · exact .grant _ (by simp at h; exact h.2)
        · exact .unchanged
      · exact .unchanged
    | memoryCompletion ok rdata =>
      refine ⟨_, rfl, ?_⟩
      split
      · next o rest _ h =>
        have : s.Event (s.issueRetired.route o ok rdata) := .complete o ok rdata (by rw [h]; rfl)
        rwa [State.issueRetired, h] at this
      · exact .unchanged
    | stampIncrement =>
      refine ⟨_, rfl, ?_⟩
      split
      · exact .increment
      · exact .unchanged
    | openDeadline w =>
      refine ⟨_, rfl, ?_⟩
      split
      · exact .deadline (.openOf w)
      · exact .unchanged
    | claimDeadline w p =>
      refine ⟨_, rfl, ?_⟩
      split
      · exact .deadline (.claimOf w p)
      · exact .unchanged
    | holdDeadline p =>
      refine ⟨_, rfl, ?_⟩
      split
      · exact .deadline (.holdOf p)
      · exact .unchanged
    | frameError bits =>
      refine ⟨_, rfl, ?_⟩
      split
      · exact .frame _ (s.frameEvent_serialFrame bits)
      · exact .unchanged
    | csnRiseWithoutFrame =>
      refine ⟨_, rfl, ?_⟩
      split
      · exact .frame _ (.answer s _ _ _)
      · exact .unchanged
    | _ => cases ho
  · obtain ⟨op, r, hop, hreq⟩ := requestOf_of_opcode ho
    exact ⟨_, exec_request s hop hreq, .frame _ (s.frameEvent_frame op r)⟩

/-- A step is the event of the front command with the rest of the queue, or without a command a REFCLK cycle (log 1). -/
theorem step_event {s t : State} (h : step s = .next t) :
    (∃ rest, State.Event { s with pending := rest } t) ∨ t = s.increment ∨
      (s.time.phase + 1 < s.time.pNow ∧ t = { s with time := { s.time with phase := s.time.phase + 1 } }) ∨ t = s := by
  unfold step at h
  split at h
  · cases h
    unfold State.refclkCycle
    split_ifs <;> simp_all
  · next c rest _ =>
    obtain ⟨u, hu, hev⟩ := exec_event c { s with pending := rest }
    rw [hu] at h
    cases h
    exact .inl ⟨rest, hev⟩

/-! ### The window record of a window that is not OFF (R1, R2) -/

/-- Of the requests STAGE WRITE alone changes a window record, and only of an OFF window. -/
theorem State.Request.cfg {s t : State} (h : s.Request t) {w : WinId} (hw : (s.win w).life ≠ .off) : t.cfg w = s.cfg w := by
  cases h with
  | stage x c off =>
    have hne : w ≠ x := fun e => hw (e ▸ off)
    exact vector_set_get_fin_ne _ _ hne
  | enable x off valid => exact State.cfg_of_base (State.base_takeRecords s x) w
  | drain x target op active draining =>
    exact State.cfg_of_base ((State.base_recordLongOp _ op [x]).trans (State.base_drainEntry s x target)) w
  | restart => exact State.cfg_of_base ((State.base_recordLongOp _ _ _).trans (s.base_restartAll _)) w
  | _ => rfl

theorem State.FrameEvent.cfg {s t : State} (h : s.FrameEvent t) {w : WinId} (hw : (s.win w).life ≠ .off) :
    t.cfg w = s.cfg w := by
  obtain ⟨a, x, o, u, a', x', o', hr⟩ := h
  exact hr.cfg (w := w) hw

/-- The increment changes no window record. -/
theorem State.cfg_increment (s : State) (w : WinId) : s.increment.cfg w = s.cfg w :=
  State.cfg_of_base (s := { s with time := s.time.tick }) (State.base_takeDue _) w

theorem State.Event.cfg {s t : State} (h : s.Event t) (hr : s.rstn = true) {w : WinId} (hw : (s.win w).life ≠ .off) :
    t.cfg w = s.cfg w := by
  cases h with
  | release csnLow low => rw [hr] at low; cases low
  | dispatch p e _ => exact State.cfg_of_base ((State.base_settle _ _ _).trans (State.base_treat s p e)) w
  | complete o ok rdata _ => exact State.cfg_of_base (s := s.issueRetired) (State.base_route _ o ok rdata) w
  | increment => exact s.cfg_increment w
  | deadline d => exact State.cfg_of_base (State.base_takeDeadline s d) w
  | grant r _ => unfold State.grantTo; split <;> rfl
  | frame t hf => exact hf.cfg hw
  | _ => rfl

/-- Settles O55. -/
theorem configFixedWhileNotOff : Obligations.ConfigFixedWhileNotOff := by
  intro s t w hr hw hstep
  obtain ⟨rest, hev⟩ | rfl | ⟨_, rfl⟩ | rfl := step_event hstep
  · exact hev.cfg hr hw
  · exact s.cfg_increment w
  · rfl
  · rfl

end Sys2Proof.Machine
end

section
/-! ### What the operations of one window can change

Every operation of a window's controller, of the port it answers and of the merge engine's job for it is a chain of a few changes:
of that controller (never of its lifecycle state), of that window's bank records, of port entries, faults, requests and the engine.
Each function is unfolded once to show its chain; what such a chain leaves alone is proved once by induction over it. -/

namespace Sys2Proof.Machine

open Sys2Proof

set_option Elab.async false

/-- The banks that the jobs of a window merge into, of the jobs not aborted (R69). -/
def Engine.destsOf (e : Engine) (x : WinId) : List BankId :=
  (e.jobs.filter fun j => !j.aborted && decide (j.window = x)).map Job.dest

/-- State t results from state s by changes that belong to window w. -/
inductive State.Acts (s : State) (w : WinId) : State → Prop
  | refl : s.Acts w s
  | modWin {t : State} (h : s.Acts w t) (f : WinCtl → WinCtl) (life : ∀ x, (f x).life = x.life)
      (seq : ∀ x, (f x).prod.nextseq = x.prod.nextseq ∨ (f x).prod.nextseq = nextSeq x.prod.nextseq) : s.Acts w (t.modWin w f)
  | modBank {t : State} (h : s.Acts w t) (b : BankId) (f : BankRec → BankRec)
      (cover : ∀ r, (f r).cover = r.cover ∨ (f r).cover = [] ∨ ∃ gs, (f r).cover = insertGranules gs r.cover) :
      s.Acts w (t.modBank w b f)
  | modEntries {t : State} (h : s.Acts w t) (p : PortId) (f : List Entry → List Entry) : s.Acts w (t.modEntries p f)
  | offer {t : State} (h : s.Acts w t) (k : FaultKind) (x : Option WinId) (p : Option PortId) (l : Option Nat) :
      s.Acts w (t.offer k x p l)
  | handOver {t : State} (h : s.Acts w t) (r : Requester) (parts : List MemReq) : s.Acts w (t.handOver r parts)
  | engine {t : State} (h : s.Acts w t) (e : Engine) (jobs : ∀ x, x ≠ w → e.destsOf x = t.engine.destsOf x) :
      s.Acts w { t with engine := e }

namespace State.Acts

theorem trans {s t u : State} {w : WinId} (h : s.Acts w t) (k : t.Acts w u) : s.Acts w u := by
  induction k with
  | refl => exact h
  | modWin _ f hl hs ih => exact ih.modWin f hl hs
  | modBank _ b f hc ih => exact ih.modBank b f hc
  | modEntries _ p f ih => exact ih.modEntries p f
  | offer _ k x p l ih => exact ih.offer k x p l
  | handOver _ r ps ih => exact ih.handOver r ps
  | engine _ e hj ih => exact ih.engine e hj

variable {s t : State} {w : WinId}

/-! #### The plain operations -/

/-- A change of the controller that keeps NEXTSEQ. -/
theorem win (h : s.Acts w t) (f : WinCtl → WinCtl) (life : ∀ x, (f x).life = x.life := by exact fun _ => rfl)
    (seq : ∀ x, (f x).prod.nextseq = x.prod.nextseq := by exact fun _ => rfl) : s.Acts w (t.modWin w f) :=
  h.modWin f life fun x => .inl (seq x)

theorem modClaim (h : s.Acts w t) (p : PortId) (f : Claim → Claim) : s.Acts w (t.modClaim w p f) :=
  h.win _

theorem modProd (h : s.Acts w t) (f : ProducerRec → ProducerRec) (seq : ∀ r, (f r).nextseq = r.nextseq := by exact fun _ => rfl) :
    s.Acts w (t.modProd w f) :=
  h.win _ (fun _ => rfl) fun x => seq x.prod

/-- A change of a bank record that keeps COVER. -/
theorem bank (h : s.Acts w t) (b : BankId) (f : BankRec → BankRec) (cover : ∀ r, (f r).cover = r.cover := by exact fun _ => rfl) :
    s.Acts w (t.modBank w b f) :=
  h.modBank b f fun r => .inl (cover r)

theorem setBankState (h : s.Acts w t) (b : BankId) (x : BankState) : s.Acts w (t.setBankState w b x) :=
  h.bank b _

theorem countRefusal (h : s.Acts w t) : s.Acts w (t.countRefusal w) := h.win _
theorem countExpiry (h : s.Acts w t) : s.Acts w (t.countExpiry w) := h.win _
theorem countDrop (h : s.Acts w t) : s.Acts w (t.countDrop w) := h.win _
theorem countCommit (h : s.Acts w t) : s.Acts w (t.countCommit w) := h.win _
theorem opStarted (h : s.Acts w t) : s.Acts w (t.opStarted w) := h.win _
theorem opEnded (h : s.Acts w t) : s.Acts w (t.opEnded w) := h.win _

theorem releaseEvent (h : s.Acts w t) (x : WinId) (p : PortId) : s.Acts w (t.releaseEvent x p) := h.modEntries p _

/-- A change of the job list that keeps the jobs of the other windows. -/
theorem modJobs (h : s.Acts w t) (f : List Job → List Job)
    (jobs : ∀ x, x ≠ w → (t.modJobs f).engine.destsOf x = t.engine.destsOf x) : s.Acts w (t.modJobs f) :=
  h.engine _ jobs

theorem setBuffer (h : s.Acts w t) (x : GranuleBytes) : s.Acts w (t.setBuffer x) := h.engine _ fun _ _ => rfl

theorem requestOp (h : s.Acts w t) (r : MemReq) : s.Acts w (t.requestOp w r) := h.opStarted.handOver _ _

/-! #### The merge engine -/

/-- A new phase of the head job leaves the jobs of every window as they are. -/
theorem destsOf_phase {j : Job} {rest : List Job} (hj : t.engine.jobs = j :: rest) (x : Phase) (y : WinId) :
    (t.modJobs fun _ => { j with phase := x } :: rest).engine.destsOf y = t.engine.destsOf y := by
  simp only [Engine.destsOf, State.modJobs, hj, List.filter_cons]
  split <;> rfl

/-- The head job starts: its own window alone. -/
theorem startHead (h : s.Acts w t) (hw : ∀ j ∈ t.engine.jobs.head?, j.window = w) : s.Acts w t.startHead := by
  unfold State.startHead
  split
  · exact h
  · next j rest hj =>
    obtain rfl : j.window = w := hw j (by simp [hj])
    split
    · exact h
    · exact (h.modJobs _ fun x _ => destsOf_phase hj _ x).requestOp _
    · exact (h.modJobs _ fun x _ => destsOf_phase hj _ x).requestOp _

theorem appendJob (h : s.Acts w t) (j : Job) (hw : j.window = w) : s.Acts w (t.appendJob j) := by
  unfold State.appendJob
  split
  · next hj =>
    refine (h.modJobs _ fun x hx => ?_).startHead (by simpa [State.modJobs] using hw)
    simp [Engine.destsOf, State.modJobs, hj, hw, hx.symm]
  · refine h.modJobs _ fun x hx => ?_
    simp [Engine.destsOf, State.modJobs, hw, hx.symm]

/-! #### Sessions -/

theorem supersede (h : s.Acts w t) : s.Acts w (t.supersede w) := by
  unfold State.supersede
  split
  · exact h
  · exact (h.win _).setBankState _ _

/-- The producer record after a commit. -/
theorem committed (h : s.Acts w t) (now : Stamp) : s.Acts w (t.modProd w (ProducerRec.committed now)) :=
  h.modWin _ (fun _ => rfl) fun _ => .inr rfl

theorem publish (h : s.Acts w t) (b : BankId) : s.Acts w (t.publish w b) :=
  (((h.supersede.bank b _).committed _).countCommit).releaseEvent _ _

theorem queueCommit (h : s.Acts w t) (b : BankId) : s.Acts w (t.queueCommit w b) :=
  ((((h.bank b _).win _).committed _).countCommit).releaseEvent _ _

theorem endSession (h : s.Acts w t) (b : BankId) : s.Acts w (t.endSession w b) :=
  ((h.setBankState b .free).modProd _).countDrop

theorem drop (h : s.Acts w t) (b : BankId) (cause : Option FaultKind) : s.Acts w (t.drop w b cause) := by
  cases cause with
  | none => exact (h.endSession b).releaseEvent _ _
  | some k => exact ((h.endSession b).offer k _ _ _).releaseEvent _ _

theorem beginMerge (h : s.Acts w t) (b : BankId) : s.Acts w (t.beginMerge w b) := (h.setBankState b _).appendJob _ rfl

theorem commitDecision (h : s.Acts w t) (b : BankId) : s.Acts w (t.commitDecision w b) := by
  unfold State.commitDecision State.snapshotDecision State.queueDecision
  split
  · dsimp only
    split
    · exact h.drop b _
    · split
      · exact h.publish b
      · split
        · exact h.drop b _
        · exact h.beginMerge b
  · split
    · exact h.drop b _
    · exact h.queueCommit b

theorem openSession (h : s.Acts w t) (b : BankId) : s.Acts w (t.openSession w b) := by
  unfold State.openSession
  refine (h.modBank b _ ?_).modProd _
  exact fun r => .inr (.inl rfl)

theorem trigger (h : s.Acts w t) (b : BankId) : s.Acts w (t.trigger w b) := (h.setBankState b _).modProd _

theorem testTrigger (h : s.Acts w t) (b : BankId) (x : Txn) : s.Acts w (t.testTrigger w b x) := by
  unfold State.testTrigger
  split
  · exact h.trigger b
  · exact h

theorem writeSteered (h : s.Acts w t) : s.Acts w (t.writeSteered w) := h.modProd _

theorem steerWrite (h : s.Acts w t) (p : PortId) (b : BankId) (e : Entry) : s.Acts w (t.steerWrite w p b e).1 :=
  ((h.testTrigger b _).writeSteered.opStarted).bank b _

theorem overlayWrite (h : s.Acts w t) (b : BankId) (x : Txn) : s.Acts w (t.overlayWrite w b x).1 := by
  unfold State.overlayWrite
  split
  · dsimp only
    split
    · exact (h.trigger b).writeSteered.commitDecision b
    · exact (h.trigger b).writeSteered
  · exact h

theorem writeToFilling (h : s.Acts w t) (p : PortId) (b : BankId) (e : Entry) : s.Acts w (t.writeToFilling w p b e).1 := by
  unfold State.writeToFilling
  split
  · exact h.overlayWrite b _
  · exact h.steerWrite p b e

theorem refuse (h : s.Acts w t) : s.Acts w (t.refuse w).1 := h.countRefusal

theorem noFreeBank (h : s.Acts w t) : s.Acts w (t.noFreeBank w).1 := by
  unfold State.noFreeBank
  split
  · exact ((h.modProd _).countRefusal).offer _ _ _ _
  · exact h
  · exact h

theorem producerWrite (h : s.Acts w t) (p : PortId) (e : Entry) : s.Acts w (t.producerWrite w p e).1 := by
  unfold State.producerWrite
  split
  · split
    · exact h.writeToFilling p _ e
    · exact h
  · split
    · exact (h.openSession _).writeToFilling p _ e
    · exact h.noFreeBank

theorem producerRead (h : s.Acts w t) (p : PortId) (e : Entry) : s.Acts w (t.producerRead w p e).1 := by
  unfold State.producerRead
  dsimp only
  split
  · exact h
  · exact h.opStarted

theorem openExpiry (h : s.Acts w t) : s.Acts w (t.openExpiry w) := by
  unfold State.openExpiry
  split
  · exact h.modProd _
  · dsimp only
    split
    · exact (h.countExpiry.endSession _).offer _ _ _ _
    · exact (h.countExpiry.setBankState _ _).modProd _

/-! #### Claims -/

theorem openClaim (h : s.Acts w t) (p : PortId) (b : BankId) : s.Acts w (t.openClaim w p b) := by
  unfold State.openClaim
  dsimp only
  split
  · exact (h.modClaim p _).bank b _
  · exact (h.modClaim p _).bank b _

theorem releaseSnapshot (h : s.Acts w t) (p : PortId) : s.Acts w (t.releaseSnapshot w p) := by
  unfold State.releaseSnapshot
  dsimp only
  split
  · exact ((h.bank _ _).modClaim p _).releaseEvent _ _
  · exact (h.modClaim p _).releaseEvent _ _

theorem dequeue (h : s.Acts w t) : s.Acts w (t.dequeue w) := by
  unfold State.dequeue
  split
  · exact h
  · exact (h.win _).setBankState _ _

theorem releaseQueue (h : s.Acts w t) (p : PortId) : s.Acts w (t.releaseQueue w p) := by
  unfold State.releaseQueue
  dsimp only
  split
  · exact ((h.dequeue.modClaim p _).releaseEvent _ _).releaseEvent _ _
  · exact (h.dequeue.modClaim p _).releaseEvent _ _

theorem releaseClaim (h : s.Acts w t) (p : PortId) : s.Acts w (t.releaseClaim w p) := by
  unfold State.releaseClaim
  split
  · exact h.releaseSnapshot p
  · exact h.releaseQueue p

theorem claimExpiry (h : s.Acts w t) (p : PortId) : s.Acts w (t.claimExpiry w p) := by
  unfold State.claimExpiry
  dsimp only
  split
  · exact (((h.releaseSnapshot p).modClaim p _).countExpiry).offer _ _ _ _
  · exact (((h.modClaim p _).modClaim p _).countExpiry).offer _ _ _ _

theorem claimDeadlineTaken (h : s.Acts w t) (p : PortId) : s.Acts w (t.claimDeadlineTaken w p) := by
  unfold State.claimDeadlineTaken
  split
  · exact h.claimExpiry p
  · exact h.modClaim p _

theorem setClosing (h : s.Acts w t) (p : PortId) : s.Acts w (t.setClosing w p) := h.modClaim p _

theorem sendRead (h : s.Acts w t) (p : PortId) (parts : List MemReq) (data : List Byte) :
    s.Acts w (t.sendRead w p parts data).1 := h.opStarted.modClaim p _

theorem serve (h : s.Acts w t) (p : PortId) (b : BankId) (e : Entry) : s.Acts w (t.serve w p b e).1 := by
  unfold State.serve State.serveSnapshot State.serveQueue
  dsimp only
  split
  · have hc : s.Acts w (if closesSnapshot (t.cfg w) e.txn then t.setClosing w p else t) := by
      split
      · exact h.setClosing p
      · exact h
    split
    · exact hc
    · exact hc.sendRead p _ _
  · split
    · split
      · split
        · exact h.releaseQueue p
        · exact h.setClosing p
      · exact h
    · refine sendRead ?_ p _ _
      split
      · exact h.setClosing p
      · exact h

theorem emptyRead (h : s.Acts w t) (p : PortId) (e : Entry) : s.Acts w (t.emptyRead w p e).1 := by
  unfold State.emptyRead
  split
  · exact h
  · split
    · exact h
    · exact h.refuse

theorem openAndServe (h : s.Acts w t) (p : PortId) (b : BankId) (e : Entry) : s.Acts w (t.openAndServe w p b e).1 :=
  (h.openClaim p b).serve p b e

theorem restart (h : s.Acts w t) (p : PortId) (e : Entry) : s.Acts w (t.restart w p e).1 := by
  unfold State.restart
  dsimp only
  split
  · exact (h.releaseSnapshot p).openAndServe p _ e
  · exact (h.releaseSnapshot p).emptyRead p e

theorem snapshotConsumerRead (h : s.Acts w t) (p : PortId) (e : Entry) : s.Acts w (t.snapshotConsumerRead w p e).1 := by
  unfold State.snapshotConsumerRead
  dsimp only
  split
  · split_ifs
    · exact h.refuse
    · exact h
    · exact h.restart p e
    · exact h.setClosing p
    · exact h.serve p _ e
  · split
    · exact h.emptyRead p e
    · split_ifs
      · exact h.refuse
      · exact h.openAndServe p _ e

theorem queueConsumerRead (h : s.Acts w t) (p : PortId) (e : Entry) : s.Acts w (t.queueConsumerRead w p e).1 := by
  unfold State.queueConsumerRead
  dsimp only
  split
  · split_ifs
    · exact h.refuse
    · exact h
    · exact h.serve p _ e
  · split
    · exact h.emptyRead p e
    · exact h.openAndServe p _ e

theorem consumerRead (h : s.Acts w t) (p : PortId) (e : Entry) : s.Acts w (t.consumerRead w p e).1 := by
  unfold State.consumerRead
  split
  · exact h.snapshotConsumerRead p e
  · exact h.queueConsumerRead p e

theorem consumerWrite (h : s.Acts w t) (p : PortId) (e : Entry) : s.Acts w (t.consumerWrite w p e).1 := by
  unfold State.consumerWrite
  dsimp only
  split
  · split
    · exact h.refuse
    · split_ifs
      · exact h.refuse
      · exact h
      · exact h.releaseClaim p
      · exact h.setClosing p
  · exact h.refuse

theorem windowAccess (h : s.Acts w t) (p : PortId) (e : Entry) : s.Acts w (t.windowAccess w p e).1 := by
  unfold State.windowAccess
  split
  · split
    · exact h.producerWrite p e
    · exact h.producerRead p e
  · split
    · exact h.consumerWrite p e
    · exact h.consumerRead p e

theorem settle (h : s.Acts w t) (p : PortId) (x : Treatment) : s.Acts w (t.settle p x) := by
  cases x with
  | answered code data => exact h.modEntries p _
  | sent parts data dest trigger => exact (h.modEntries p _).handOver _ _
  | held y => exact h.modEntries p _

/-! #### Completions -/

theorem writeLanded (h : s.Acts w t) (b : BankId) : s.Acts w (t.writeLanded w b) := h.bank b _

theorem writeError (h : s.Acts w t) (e : Entry) : s.Acts w (t.writeError w e) := by
  unfold State.writeError
  split
  · exact h.offer _ _ _ _
  · exact h

theorem readError (h : s.Acts w t) (p : PortId) (e : Entry) : s.Acts w (t.readError w p e) := by
  unfold State.readError
  split
  · exact h.offer _ _ _ _
  · exact h

theorem recordWrite (h : s.Acts w t) (b : BankId) (c : WindowRec) (e : Entry) :
    s.Acts w (t.modBank w b (BankRec.recordWrite c e)) := by
  refine h.modBank b _ fun r => ?_
  unfold BankRec.recordWrite
  split
  · exact .inl rfl
  · exact .inr (.inr ⟨_, rfl⟩)

theorem afterWrite (h : s.Acts w t) (b : BankId) (e : Entry) : s.Acts w (t.afterWrite w b e) := by
  unfold State.afterWrite State.abandonLate
  dsimp only
  split
  · split
    · exact h.commitDecision b
    · exact h
  · split
    · exact h.drop b _
    · exact h
  all_goals exact h

theorem claimCheck (h : s.Acts w t) (p : PortId) : s.Acts w (t.claimCheck w p) := by
  unfold State.claimCheck
  dsimp only
  split_ifs
  · exact h.releaseClaim p
  · exact h.claimExpiry p
  · exact h
  · exact h

theorem mergeSuccess (h : s.Acts w t) (j : Job) (hw : j.window = w) : s.Acts w (t.mergeSuccess j) := by
  subst hw
  exact (h.bank j.dest _).publish j.dest

theorem mergeFailure (h : s.Acts w t) (j : Job) (hw : j.window = w) : s.Acts w (t.mergeFailure j) := by
  subst hw
  exact (h.offer _ _ _ _).drop j.dest none

theorem granuleFetched (h : s.Acts w t) {j : Job} {rest : List Job} (hj : t.engine.jobs = j :: rest) (hw : j.window = w)
    (rdata : Burst) : s.Acts w (t.granuleFetched j rest rdata) := by
  subst hw
  exact ((h.modJobs _ fun x _ => destsOf_phase hj .writing x).setBuffer _).requestOp _

/-! #### Deadlines -/

theorem holdExpiry (h : s.Acts w t) (p : PortId) (e : Entry) : s.Acts w (t.holdExpiry p w e) := by
  unfold State.holdExpiry
  dsimp only
  split
  · exact ((((h.modEntries p _).countRefusal).countExpiry).modProd _).offer _ _ _ _
  · exact (((h.modEntries p _).countRefusal).countExpiry).offer _ _ _ _

/-! #### What a chain leaves alone -/

theorem base (h : s.Acts w t) : t.base = s.base := by
  induction h with
  | refl => rfl
  | _ => simp_all [State.base]

theorem cfg (h : s.Acts w t) (x : WinId) : t.cfg x = s.cfg x := State.cfg_of_base h.base x

theorem life (h : s.Acts w t) (x : WinId) : (t.win x).life = (s.win x).life := by
  induction h with
  | refl => rfl
  | modWin _ f hl _ ih =>
    by_cases hx : x = w
    · subst hx
      rw [State.win_modWin_same, hl, ih]
    · rw [State.win_modWin_ne _ _ hx, ih]
  | _ => assumption

theorem otherWin (h : s.Acts w t) {x : WinId} (hx : x ≠ w) : t.win x = s.win x := by
  induction h with
  | refl => rfl
  | modWin _ f _ _ ih => rw [State.win_modWin_ne _ _ hx, ih]
  | _ => assumption

/-- A change of a bank record keeps the owner of every record (R10). -/
theorem owner_modBank (s : State) (w : WinId) (b : BankId) (f : BankRec → BankRec) (i : RecId) :
    (s.modBank w b f).pool[i].owner = s.pool[i].owner := by
  cases hb : s.recordOf w b with
  | none => simp [State.modBank, hb, modRecord]
  | some k =>
    by_cases hi : i = k
    · subst hi
      simp [State.modBank, hb, modRecord]
    · rw [State.pool_modBank_ne s f i (by rw [hb]; simpa using Ne.symm hi)]

theorem owner (h : s.Acts w t) (i : RecId) : t.pool[i].owner = s.pool[i].owner := by
  induction h with
  | refl => rfl
  | modBank _ b f _ ih => rw [owner_modBank, ih]
  | _ => assumption

theorem recordOf (h : s.Acts w t) (x : WinId) (b : BankId) : t.recordOf x b = s.recordOf x b :=
  State.recordOf_congr h.owner x b

theorem otherBank (h : s.Acts w t) {x : WinId} (hx : x ≠ w) (b : BankId) : t.bank x b = s.bank x b := by
  induction h with
  | refl => rfl
  | modBank _ c f _ ih => rw [State.bank_modBank_ne _ _ (fun e => hx e.1), ih]
  | _ => assumption

theorem otherJobs (h : s.Acts w t) {x : WinId} (hx : x ≠ w) : t.engine.destsOf x = s.engine.destsOf x := by
  induction h with
  | refl => rfl
  | engine _ e hj ih => rw [← ih, ← hj x hx]
  | _ => assumption

end State.Acts

end Sys2Proof.Machine
end

section
/-! ### The ranges that every step keeps (R11, R34, R156) -/

namespace Sys2Proof.Machine

open Sys2Proof

set_option Elab.async false

/-! #### Where the operations of several windows meet -/

namespace State.Acts

/-- A dispatch acts on one window at most. -/
theorem exists_treat (s : State) (p : PortId) (e : Entry) : ∃ w, s.Acts w (s.treat p e).1 := by
  unfold State.treat
  split
  · exact ⟨0, refl.offer _ _ _ _⟩
  · next w _ => exact ⟨w, refl.offer _ _ _ _⟩
  · next w _ => exact ⟨w, refl.offer _ _ _ _⟩
  · next w _ => exact ⟨w, refl.refuse⟩
  · next w _ => exact ⟨w, refl.countRefusal.offer _ _ _ _⟩
  · next w _ => exact ⟨w, refl.windowAccess p e⟩
  · exact ⟨0, refl⟩

/-- The start of the head job acts on that job's window alone. -/
theorem exists_startHead (s : State) : ∃ w, s.Acts w s.startHead := by
  cases hj : s.engine.jobs with
  | nil => exact ⟨0, by rw [State.startHead, hj]; exact refl⟩
  | cons j rest => exact ⟨j.window, refl.startHead (by simp [hj])⟩

/-- The taking of a deadline acts on one window at most. -/
theorem exists_takeDeadline (s : State) (d : Deadline) : ∃ w, s.Acts w (s.takeDeadline d) := by
  cases d with
  | openOf w =>
    refine ⟨w, ?_⟩
    unfold State.takeDeadline State.takeOpen
    dsimp only
    split
    · exact refl.openExpiry
    · exact refl
  | claimOf w p =>
    refine ⟨w, ?_⟩
    unfold State.takeDeadline State.takeClaim
    dsimp only
    split
    · exact refl.claimDeadlineTaken p
    · exact refl
  | holdOf p =>
    unfold State.takeDeadline State.takeHold
    dsimp only
    split
    · exact ⟨0, refl⟩
    · split
      · next w _ =>
        split
        · exact ⟨w, refl.holdExpiry p _⟩
        · exact ⟨0, refl⟩
      · exact ⟨0, refl⟩

/-- The window controller's part of a completion: a chain for its window, after which a drain may end (R20, R21). -/
theorem windowDone (s : State) (w : WinId) (p : PortId) (e : Entry) :
    s.Acts w (s.windowDone w p e) ∨ ∃ u, s.Acts w u ∧ s.windowDone w p e = u.opDone w := by
  unfold State.windowDone
  split
  · next b _ _ =>
    unfold State.writeDone
    dsimp only
    split
    · exact .inl (((((refl.writeLanded b).recordWrite b _ e).writeError e).opEnded).afterWrite b e)
    · exact .inr ⟨_, (refl.writeLanded b).writeError e, rfl⟩
  · exact .inr ⟨s, refl, rfl⟩
  · split
    · exact .inr ⟨_, refl.readError p e, rfl⟩
    · unfold State.consumerReadDone
      dsimp only
      split
      · exact .inl ((((refl.modClaim p _).readError p e).opEnded).claimCheck p)
      · exact .inr ⟨_, (refl.modClaim p _).readError p e, rfl⟩

end State.Acts

/-! #### NEXTSEQ and COVER -/

/-- The sequence number after one is none of the value "none" (R11). -/
theorem nextSeq_ne_zero (x : SeqNum) : nextSeq x ≠ 0 := by
  unfold nextSeq
  split
  · decide
  · next h =>
    intro h0
    apply h
    have : x + 1 = 0#16 := h0
    have hall : BitVec.allOnes 16 = 65535#16 := rfl
    rw [hall]
    bv_omega

theorem mem_insertGranule {g x : Nat} {l : List Nat} : x ∈ insertGranule g l ↔ x = g ∨ x ∈ l := by
  induction l with
  | nil => simp [insertGranule]
  | cons h rest ih =>
    unfold insertGranule
    split_ifs with h1 h2
    · simp
    · simp [h2]
    · simp only [List.mem_cons, ih]
      tauto

/-- A granule joins COVER in its place (R34). -/
theorem insertGranule_ordered {g : Nat} {l : List Nat} (h : l.Pairwise (· < ·)) : (insertGranule g l).Pairwise (· < ·) := by
  induction l with
  | nil => simp [insertGranule]
  | cons x rest ih =>
    obtain ⟨hx, hrest⟩ := List.pairwise_cons.mp h
    unfold insertGranule
    split_ifs with h1 h2
    · exact List.pairwise_cons.mpr ⟨fun y hy => (List.mem_cons.mp hy).elim (· ▸ h1) fun hm => h1.trans (hx y hm), h⟩
    · exact h
    · refine List.pairwise_cons.mpr ⟨fun y hy => ?_, ih hrest⟩
      rcases mem_insertGranule.mp hy with rfl | hm
      · omega
      · exact hx y hm

theorem insertGranules_ordered (gs : List Nat) {l : List Nat} (h : l.Pairwise (· < ·)) :
    (insertGranules gs l).Pairwise (· < ·) := by
  unfold insertGranules
  induction gs generalizing l with
  | nil => exact h
  | cons g gs ih => exact ih (insertGranule_ordered h)

/-- From state s to state t NEXTSEQ stays above 0 and COVER in order. -/
structure State.KeepsRanges (s t : State) : Prop where
  seqs : s.SeqsValid → t.SeqsValid
  covers : s.CoversOrdered → t.CoversOrdered

namespace State.KeepsRanges

theorem refl (s : State) : s.KeepsRanges s := ⟨id, id⟩

theorem trans {s t u : State} (h : s.KeepsRanges t) (k : t.KeepsRanges u) : s.KeepsRanges u :=
  ⟨k.seqs ∘ h.seqs, k.covers ∘ h.covers⟩

/-- Two states with the same controllers and the same pool. -/
theorem of_eq {s t : State} (hw : t.windows = s.windows) (hp : t.pool = s.pool) : s.KeepsRanges t where
  seqs h w := by
    have : t.win w = s.win w := by simp [State.win, hw]
    rw [this]
    exact h w
  covers h i := by
    rw [hp]
    exact h i

/-- A change of blocks that the ranges do not read, before. -/
theorem before {s t u : State} (h : t.KeepsRanges u) (hw : t.windows = s.windows) (hp : t.pool = s.pool) : s.KeepsRanges u :=
  (of_eq hw hp).trans h

/-- A change of blocks that the ranges do not read, afterwards. -/
theorem after {s t u : State} (h : s.KeepsRanges t) (hw : u.windows = t.windows) (hp : u.pool = t.pool) : s.KeepsRanges u :=
  h.trans (of_eq hw hp)

/-- A change of one controller. -/
theorem modWin (s : State) (w : WinId) (f : WinCtl → WinCtl)
    (hf : ∀ x, x.prod.nextseq ≠ 0 → (f x).prod.nextseq ≠ 0) : s.KeepsRanges (s.modWin w f) where
  seqs h x := by
    by_cases hx : x = w
    · subst hx
      rw [State.win_modWin_same]
      exact hf _ (h x)
    · rw [State.win_modWin_ne _ _ hx]
      exact h x
  covers h := h

/-- A change of records of the pool that gives an ordered COVER each. -/
theorem of_pool {s t : State} (hw : t.windows = s.windows)
    (hp : ∀ i : RecId, t.pool[i].cover = s.pool[i].cover ∨ t.pool[i].cover = []) : s.KeepsRanges t where
  seqs := (of_eq (s := s) (t := { t with pool := s.pool }) hw rfl).seqs
  covers h i := by
    rcases hp i with hi | hi <;> rw [hi]
    · exact h i
    · exact .nil

theorem modBank (s : State) (w : WinId) (b : BankId) (f : BankRec → BankRec)
    (hf : ∀ r, r.cover.Pairwise (· < ·) → (f r).cover.Pairwise (· < ·)) : s.KeepsRanges (s.modBank w b f) where
  seqs h := h
  covers h i := by
    by_cases hi : s.recordOf w b = some i
    · simp only [State.modBank, hi, modRecord]
      simpa using hf _ (h i)
    · rw [State.pool_modBank_ne s f i hi]
      exact h i

/-- A chain of changes of one window. -/
theorem of_acts {s t : State} {w : WinId} (h : s.Acts w t) : s.KeepsRanges t := by
  induction h with
  | refl => exact refl s
  | modWin _ f _ hs ih =>
    refine ih.trans (modWin _ w f fun x hx => ?_)
    rcases hs x with h | h <;> rw [h]
    · exact hx
    · exact nextSeq_ne_zero _
  | modBank _ b f hc ih =>
    refine ih.trans (modBank _ w b f fun r hr => ?_)
    rcases hc r with h | h | ⟨gs, h⟩ <;> rw [h]
    · exact hr
    · exact .nil
    · exact insertGranules_ordered gs hr
  | modEntries _ _ _ ih | offer _ _ _ _ _ ih | handOver _ _ _ ih | engine _ _ _ ih => exact ih.after rfl rfl

/-! #### Drains, ENABLE and the pool -/

theorem drainComplete (s : State) (w : WinId) : s.KeepsRanges (s.drainComplete w) where
  seqs h x := by
    by_cases hx : x = w
    · subst hx
      rw [State.drainComplete_win_same]
      exact h x
    · rw [State.drainComplete_win_ne _ hx]
      exact h x
  covers h i := by
    by_cases hi : ∃ b, s.pool[i].owner = some (w, b)
    · obtain ⟨b, hb⟩ := hi
      rw [State.drainComplete_pool_same s w hb]
      exact .nil
    · rw [State.drainComplete_pool_other s w (not_exists.mp hi)]
      exact h i

theorem drainCheck (s : State) (w : WinId) : s.KeepsRanges (s.drainCheck w) := by
  unfold State.drainCheck
  split
  · exact drainComplete s w
  · exact refl s

theorem opDone (s : State) (w : WinId) : s.KeepsRanges (s.opDone w) :=
  (of_acts (State.Acts.refl.opEnded (w := w))).trans (drainCheck _ w)

theorem drainBegun (s : State) (w : WinId) (target : Life) : s.KeepsRanges (s.drainBegun w target) where
  seqs h x := by
    by_cases hx : x = w
    · subst hx
      rw [State.drainBegun_win_same]
      exact h x
    · rw [State.drainBegun_win_ne _ _ hx]
      exact h x
  covers h := by
    unfold State.CoversOrdered
    rw [State.drainBegun_pool]
    exact h

theorem drainEntry (s : State) (w : WinId) (target : Life) : s.KeepsRanges (s.drainEntry w target) :=
  (drainBegun s w target).trans (drainCheck _ w)

/-- A chain of operations each of which keeps the ranges keeps them. -/
theorem foldl {α : Type} (f : State → α → State) (h : ∀ (s : State) a, s.KeepsRanges (f s a)) (l : List α) (s : State) :
    s.KeepsRanges (l.foldl f s) := by
  induction l generalizing s with
  | nil => exact refl s
  | cons a l ih => exact (h s a).trans (ih _)

theorem takeRecord (s : State) (w : WinId) (b : BankId) : s.KeepsRanges (s.takeRecord w b) := by
  refine of_pool rfl fun i => ?_
  cases hf : s.freeRecords with
  | nil => exact .inl (by simp [State.takeRecord, hf, modRecord])
  | cons f rest =>
    rw [State.takeRecord_pool hf]
    by_cases hi : i = f
    · subst hi
      exact .inr (by simp [BankRec.initial])
    · exact .inl (by rw [vector_set_get_fin_ne _ _ hi])

theorem enableWindow (s : State) (w : WinId) : s.KeepsRanges (s.enableWindow w) :=
  (foldl _ (fun s b => takeRecord s w b) _ s).trans (modWin _ w _ fun _ _ => by decide)

theorem freeBanks (s : State) (w : WinId) : s.KeepsRanges (s.freeBanks w) := by
  refine of_pool rfl fun i => .inl ?_
  rw [State.freeBanks_pool]
  split <;> rfl

/-! #### The events -/

theorem request {s t : State} (h : s.Request t) : s.KeepsRanges t := by
  cases h with
  | unchanged => exact refl s
  | stage w c off => exact of_eq rfl rfl
  | enable w off valid => exact enableWindow s w
  | drain w target op active draining =>
    exact (drainEntry s w target).after (State.recordLongOp_windows _ op [w]) (State.recordLongOp_pool _ op [w])
  | retire w suspended => exact (modWin s w (fun x => { x with life := .off }) fun _ hx => hx).trans (freeBanks _ w)
  | resume w suspended => exact modWin s w _ fun _ hx => hx
  | restart =>
    have hfold := foldl (fun s w => s.drainEntry w .restarting) (fun s w => drainEntry s w .restarting) s.activeWindows s
    exact hfold.after (State.recordLongOp_windows _ _ _) (State.recordLongOp_pool _ _ _)
  | clearCounters w => exact modWin s w _ fun _ hx => hx
  | _ => exact of_eq rfl rfl

theorem frameEvent {s t : State} (h : s.FrameEvent t) : s.KeepsRanges t := by
  obtain ⟨a, x, o, u, a', x', o', hr⟩ := h
  have hu : s.KeepsRanges u := (request hr).before rfl rfl
  exact hu.after rfl rfl

theorem takeDeadline (s : State) (d : Deadline) : s.KeepsRanges (s.takeDeadline d) :=
  have ⟨_, h⟩ := State.Acts.exists_takeDeadline s d
  of_acts h

theorem increment (s : State) : s.KeepsRanges s.increment :=
  (foldl State.takeDeadline takeDeadline _ { s with time := s.time.tick }).before rfl rfl

theorem startHead (s : State) : s.KeepsRanges s.startHead :=
  have ⟨_, h⟩ := State.Acts.exists_startHead s
  of_acts h

theorem windowDone (s : State) (w : WinId) (p : PortId) (e : Entry) : s.KeepsRanges (s.windowDone w p e) := by
  rcases State.Acts.windowDone s w p e with h | ⟨u, h, hu⟩
  · exact of_acts h
  · rw [hu]
    exact (of_acts h).trans (opDone u w)

theorem engineCompletion (s : State) (w : WinId) (ok : Bool) (rdata : Burst) :
    s.KeepsRanges (s.engineCompletion w ok rdata) := by
  have hjobs : ∀ f, s.KeepsRanges (s.modJobs f) := fun f => of_eq rfl rfl
  unfold State.engineCompletion
  split
  · exact opDone s w
  · next j rest hj =>
    split_ifs
    · exact ((hjobs _).trans (opDone _ w)).trans (startHead _)
    · exact (((hjobs _).trans (of_acts (State.Acts.refl.mergeFailure j rfl))).trans (opDone _ w)).trans (startHead _)
    · split
      · exact (of_acts (State.Acts.refl.granuleFetched hj rfl rdata)).trans (opDone _ w)
      · unfold State.granuleStored
        dsimp only
        split
        · exact (((hjobs _).trans (of_acts (State.Acts.refl.mergeSuccess _ rfl))).trans (opDone _ w)).trans (startHead _)
        · exact ((hjobs _).trans (startHead _)).trans (opDone _ w)
      · exact opDone s w

theorem route (s : State) (o : Issue) (ok : Bool) (rdata : Burst) : s.KeepsRanges (s.route o ok rdata) := by
  unfold State.route
  split
  · unfold State.portCompletion
    split
    · exact refl s
    · dsimp only
      split
      · split
        · exact (windowDone _ _ _ _).before rfl rfl
        · exact of_eq rfl rfl
      · exact of_eq rfl rfl
  · split
    · exact engineCompletion s _ ok rdata
    · exact refl s

theorem reset (s : State) {t : State} (hw : t.windows = State.reset.windows) (hp : t.pool = State.reset.pool) :
    s.KeepsRanges t where
  seqs _ := (of_eq hw hp).seqs safeAtReset.2.2.1
  covers _ := (of_eq hw hp).covers safeAtReset.2.2.2

theorem event {s t : State} (h : s.Event t) : s.KeepsRanges t := by
  cases h with
  | unchanged => exact refl s
  | fall =>
    refine ⟨fun h w => ?_, fun h i => ?_⟩
    · simpa [State.win, WinCtl.inReset, WinCtl.drained, ProducerRec.cleared] using h w
    · simpa using h i
  | release csnLow low => exact reset s rfl rfl
  | accept p x accepts => exact of_eq rfl rfl
  | dispatch p e _ =>
    obtain ⟨w, hw⟩ := State.Acts.exists_treat s p e
    exact of_acts (hw.settle p _)
  | respond p e rest front answered x => exact of_eq rfl rfl
  | grant r room =>
    unfold State.grantTo
    split
    · exact refl s
    · exact of_eq rfl rfl
  | complete o ok rdata oldest => exact (route s.issueRetired o ok rdata).before rfl rfl
  | increment => exact increment s
  | deadline d => exact takeDeadline s d
  | frame t hf => exact frameEvent hf

theorem step {s t : State} (h : Machine.step s = .next t) : s.KeepsRanges t := by
  obtain ⟨rest, hev⟩ | rfl | ⟨_, rfl⟩ | rfl := step_event h
  · exact (event hev).before rfl rfl
  · exact increment s
  · exact of_eq rfl rfl
  · exact refl _

end State.KeepsRanges

/-! #### The time base -/

theorem TimeBase.InRange.tick {x : TimeBase} (h : x.InRange) : x.tick.InRange :=
  ⟨h.stored, h.stored, Nat.lt_of_lt_of_le Nat.zero_lt_one h.stored.1⟩

theorem State.inRange_increment {s : State} (h : s.time.InRange) : s.increment.time.InRange := by
  have : s.increment.time = s.time.tick := congrArg Base.time s.base_increment
  rw [this]
  exact h.tick

theorem State.Request.inRange {s t : State} (h : s.Request t) (hs : s.time.InRange) : t.time.InRange := by
  have of_base : ∀ {u : State}, u.base = s.base → u.time.InRange := fun {u} hb => by
    have : u.time = s.time := congrArg Base.time hb
    rwa [this]
  cases h with
  | enable w off valid => exact of_base (State.base_takeRecords s w)
  | drain w target op active draining =>
    exact of_base ((State.base_recordLongOp _ op [w]).trans (State.base_drainEntry s w target))
  | restart => exact of_base ((State.base_recordLongOp _ _ _).trans (s.base_restartAll _))
  | prescale p range => exact ⟨range, hs.inForce, hs.phase⟩
  | _ => exact hs

theorem State.Event.inRange {s t : State} (h : s.Event t) (hs : s.time.InRange) : t.time.InRange := by
  have of_base : ∀ {u v : State}, v.base = u.base → u.time = s.time → v.time.InRange := fun {u v} hb hu => by
    have hv : v.time = u.time := congrArg Base.time hb
    rwa [hv, hu]
  cases h with
  | fall => exact ⟨hs.stored, hs.inForce, Nat.lt_of_lt_of_le Nat.zero_lt_one hs.inForce.1⟩
  | release csnLow low => exact safeAtReset.2.1
  | dispatch p e _ => exact of_base ((State.base_settle _ _ _).trans (State.base_treat s p e)) rfl
  | complete o ok rdata _ => exact of_base (State.base_route s.issueRetired o ok rdata) rfl
  | increment => exact State.inRange_increment hs
  | deadline d => exact of_base (State.base_takeDeadline s d) rfl
  | grant r _ => unfold State.grantTo; split <;> exact hs
  | frame t hf =>
    obtain ⟨a, x, o, u, a', x', o', hr⟩ := hf
    exact hr.inRange hs
  | _ => exact hs

theorem inRange_step {s t : State} (hs : s.time.InRange) (h : step s = .next t) : t.time.InRange := by
  obtain ⟨rest, hev⟩ | rfl | ⟨hp, rfl⟩ | rfl := step_event h
  · exact hev.inRange hs
  · exact State.inRange_increment hs
  · exact ⟨hs.stored, hs.inForce, hp⟩
  · exact hs

/-- Settles O57. -/
theorem rangesKept : Obligations.RangesKept :=
  ⟨fun _ _ hs h => inRange_step hs h, fun _ _ hs h => (State.KeepsRanges.step h).seqs hs,
    fun _ _ hs h => (State.KeepsRanges.step h).covers hs⟩

end Sys2Proof.Machine
end

section
/-! ### The exchange of a window, seen through its room

The invariant of the exchange reads a window only through the states and holders of its banks, the producer record's bank and open
deadline, the order list, the banks its claims are on and the banks its merge jobs are for. This view is called the window's
room. -/

namespace Sys2Proof.Machine

open Sys2Proof

set_option Elab.async false

/-- What the invariant of the exchange reads of a window. -/
@[ext]
structure Room where
  state : BankId → BankState
  holders : BankId → PortSet
  bank : Option BankId
  opendl : Option Stamp
  order : List BankId
  claimed : PortId → Option BankId
  /-- The banks that its merge jobs not aborted are for. -/
  jobs : List BankId

/-- The room of a window. -/
def State.room (s : State) (w : WinId) : Room where
  state b := (s.bank w b).state
  holders b := (s.bank w b).holders
  bank := (s.win w).prod.bank
  opendl := (s.win w).prod.opendl
  order := (s.win w).order
  claimed p := (s.claim w p).bank
  jobs := s.engine.destsOf w

/-- The room that the end of a drain leaves (R21). -/
def Room.clear : Room where
  state _ := .free
  holders _ := 0
  bank := none
  opendl := none
  order := []
  claimed _ := none
  jobs := []

/-- A room in agreement with itself and with the window record: the conditions of `BanksAgree`,
`ClaimsAgree` and `ExchangeSound` on it. -/
structure Room.Sound (r : Room) (c : WindowRec) : Prop where
  modes : ∀ b, (r.state b).inMode c.mode = true
  producer : ∀ b, (r.state b).isProducer = true ↔ r.bank = some b
  oneCurrent : ∀ a b, r.state a = .current → r.state b = .current → a = b
  heldHeld : ∀ b, r.state b = .held → r.holders b ≠ 0
  deadline : r.opendl ≠ none → ∃ b, r.bank = some b ∧ r.state b = .filling
  queued : ∀ b, b ∈ r.order ↔ r.state b = .queued
  queuedOnce : r.order.Nodup
  consumer : ∀ p, r.claimed p ≠ none → hasPort c.consumers p = true
  image : c.mode = .snapshot → ∀ p b, r.claimed p = some b → r.state b = .current ∨ r.state b = .held
  holders : c.mode = .snapshot → ∀ p b, hasPort (r.holders b) p = true ↔ r.claimed p = some b
  head : c.mode = .queue → ∀ p b, r.claimed p = some b → r.order.head? = some b
  noHolders : c.mode = .queue → ∀ b, r.holders b = 0
  merging : ∀ b ∈ r.jobs, r.state b = .merging
  oneJob : r.jobs.length ≤ 1

/-- A claim record that is idle where it has no claim (R49, R60, R106). -/
def Claim.Settled (k : Claim) : Prop := k.bank = none → k.Idle

/-- Every claim record of a window is settled. -/
def State.ClaimsSettled (s : State) (w : WinId) : Prop := ∀ p, (s.claim w p).Settled

/-- The two agreements of an ACTIVE window in terms of its room. -/
theorem State.agree_iff (s : State) (w : WinId) :
    s.BanksAgree w ∧ s.ClaimsAgree w ∧ (∀ b ∈ s.engine.destsOf w, (s.bank w b).state = .merging) ∧
      (s.engine.destsOf w).length ≤ 1 ↔ (s.room w).Sound (s.cfg w) ∧ s.ClaimsSettled w :=
  ⟨fun ⟨b, c, hm, hl⟩ => ⟨⟨b.modes, b.producer, b.oneCurrent, b.heldHeld, b.deadline, b.queued, b.queuedOnce, c.consumer,
      c.image, c.holders, c.head, c.noHolders, hm, hl⟩, c.idle⟩,
    fun ⟨r, hc⟩ => ⟨⟨r.modes, r.producer, r.oneCurrent, r.heldHeld, r.deadline, r.queued, r.queuedOnce⟩,
      ⟨r.consumer, hc, r.image, r.holders, r.head, r.noHolders⟩, r.merging, r.oneJob⟩⟩

/-- A window without a job is clear when its room is and its claim records are settled. -/
theorem State.banksClear_iff (s : State) (w : WinId) :
    s.BanksClear w ∧ s.engine.destsOf w = [] ↔ s.room w = .clear ∧ s.ClaimsSettled w := by
  constructor
  · rintro ⟨h, hj⟩
    refine ⟨?_, fun p _ => h.claims p⟩
    simp only [State.room, Room.clear, Room.mk.injEq]
    exact ⟨funext h.free, funext h.holders, h.bank, h.opendl, h.order, funext fun p => (h.claims p).bank, hj⟩
  · rintro ⟨hr, hc⟩
    simp only [State.room, Room.clear, Room.mk.injEq] at hr
    obtain ⟨hstate, hhold, hbank, hopen, horder, hclaim, hjobs⟩ := hr
    exact ⟨⟨congrFun hstate, congrFun hhold, hbank, hopen, horder, fun p => hc p (congrFun hclaim p)⟩, hjobs⟩

theorem Room.clear_sound (c : WindowRec) : Room.clear.Sound c where
  modes b := rfl
  producer b := by simp [Room.clear, BankState.isProducer]
  oneCurrent a b h := by cases h
  heldHeld b h := by cases h
  deadline h := absurd rfl h
  queued b := by simp [Room.clear]
  queuedOnce := .nil
  consumer p h := absurd rfl h
  image _ p b h := by cases h
  holders _ p b := by simp [Room.clear, hasPort]
  head _ p b h := by cases h
  noHolders _ b := rfl
  merging b h := nomatch h
  oneJob := Nat.zero_le 1

/-! #### Sets of ports -/

theorem hasPort_addPort (ps : PortSet) (p q : PortId) : hasPort (addPort ps p) q = true ↔ q = p ∨ hasPort ps q = true := by
  revert ps p q
  decide

theorem hasPort_removePort (ps : PortSet) (p q : PortId) :
    hasPort (removePort ps p) q = true ↔ q ≠ p ∧ hasPort ps q = true := by
  revert ps p q
  decide

/-- A set of ports without a port is empty. -/
theorem portSet_eq_zero {ps : PortSet} (h : ∀ p, hasPort ps p = false) : ps = 0 := by
  revert ps
  decide

/-- The ports of a set, as a finite set. -/
theorem portCount_eq_card (ps : PortSet) : portCount ps = (Finset.univ.filter fun p : PortId => hasPort ps p = true).card := by
  revert ps
  decide

/-! #### The counts that follow (R26, R88) -/

theorem WindowRec.bankIds_nodup (c : WindowRec) : c.bankIds.Nodup := (List.nodup_finRange 8).filter _

/-- A bank of a sound room that is in none of the producer's states, in SNAPSHOT and with no producer bank. -/
theorem Room.Sound.snapshot_states {r : Room} {c : WindowRec} (h : r.Sound c) (hm : c.mode = .snapshot) (hb : r.bank = none)
    (b : BankId) : r.state b = .free ∨ r.state b = .current ∨ r.state b = .held := by
  have hmode := h.modes b
  have hprod := h.producer b
  rw [hb] at hprod
  cases hs : r.state b <;> simp_all [BankState.inMode, BankState.isProducer]

/-- A HELD bank is held by a consumer. -/
theorem Room.Sound.held_claimed {r : Room} {c : WindowRec} (h : r.Sound c) (hm : c.mode = .snapshot) {b : BankId}
    (hb : r.state b = .held) : ∃ p, hasPort c.consumers p = true ∧ r.claimed p = some b := by
  obtain ⟨p, hp⟩ : ∃ p, hasPort (r.holders b) p = true := by
    by_contra hn
    push Not at hn
    exact h.heldHeld b hb (portSet_eq_zero fun p => Bool.eq_false_iff.mpr (hn p))
  have hc := (h.holders hm p b).mp hp
  exact ⟨p, h.consumer p (by rw [hc]; simp), hc⟩

/-- The fourth property of R26: a SNAPSHOT window with more banks than consumers plus one has a FREE bank whenever it has no
producer bank, since each HELD bank has a consumer of its own. -/
theorem Room.Sound.exists_free {r : Room} {c : WindowRec} (h : r.Sound c) (hm : c.mode = .snapshot) (hb : r.bank = none)
    (hn : c.bankCount ≤ 8) (hc : portCount c.consumers + 1 < c.bankCount) :
    ∃ b : BankId, b.val < c.bankCount ∧ r.state b = .free := by
  by_contra hno
  push Not at hno
  set B := Finset.univ.filter fun b : BankId => b.val < c.bankCount with hB
  set H := Finset.univ.filter fun b : BankId => r.state b = .held
  set C := Finset.univ.filter fun b : BankId => r.state b = .current
  set P := Finset.univ.filter fun p : PortId => hasPort c.consumers p = true
  have hcover : B ⊆ H ∪ C := by
    intro b hbB
    have hlt : b.val < c.bankCount := by simpa [B] using hbB
    rcases h.snapshot_states hm hb b with hf | hcur | hheld
    · exact absurd hf (hno b hlt)
    · simp [C, hcur]
    · simp [H, hheld]
  have hBcard : B.card = c.bankCount := by
    have hset : B = c.bankIds.toFinset := by
      ext b
      simp [B]
    rw [hset, List.toFinset_card_of_nodup c.bankIds_nodup, WindowRec.bankIds_length hn]
  have hCcard : C.card ≤ 1 := by
    refine Finset.card_le_one.mpr fun a ha b hb => h.oneCurrent a b ?_ ?_
    · simpa [C] using ha
    · simpa [C] using hb
  have hHcard : H.card ≤ P.card := by
    have hsub : H.image some ⊆ P.image r.claimed := by
      intro o ho
      obtain ⟨b, hbH, rfl⟩ := Finset.mem_image.mp ho
      obtain ⟨p, hp, hcl⟩ := h.held_claimed hm (b := b) (by simpa [H] using hbH)
      exact Finset.mem_image.mpr ⟨p, by simpa [P] using hp, hcl⟩
    calc H.card = (H.image some).card := (Finset.card_image_of_injective _ (Option.some_injective _)).symm
      _ ≤ (P.image r.claimed).card := Finset.card_le_card hsub
      _ ≤ P.card := Finset.card_image_le
  have hle : B.card ≤ H.card + C.card := (Finset.card_le_card hcover).trans (Finset.card_union_le _ _)
  have hP : P.card = portCount c.consumers := (portCount_eq_card _).symm
  omega

/-- In QUEUE a bank is FREE, QUEUED or the producer bank. -/
theorem Room.Sound.queue_states {r : Room} {c : WindowRec} (h : r.Sound c) (hm : c.mode = .queue) (b : BankId) :
    r.state b = .free ∨ r.state b = .queued ∨ (r.state b).isProducer = true := by
  have hmode := h.modes b
  cases hs : r.state b <;> simp_all [BankState.inMode, BankState.isProducer]

/-- The banks of a list in states FREE, QUEUED and those of a producer bank. -/
theorem length_eq_by_state (f : BankId → BankState) (l : List BankId)
    (h : ∀ b ∈ l, f b = .free ∨ f b = .queued ∨ (f b).isProducer = true) :
    l.length = (l.filter fun b => decide (f b = .queued)).length + (l.filter fun b => decide (f b = .free)).length +
      (l.filter fun b => (f b).isProducer).length := by
  induction l with
  | nil => rfl
  | cons b l ih =>
    have hl := ih fun a ha => h a (List.mem_cons_of_mem b ha)
    have hb := h b List.mem_cons_self
    cases hs : f b <;> simp_all [BankState.isProducer] <;> omega

/-- The sum of R88: the QUEUED banks, the FREE banks and the producer bank make up BANKS. -/
theorem Room.Sound.sum {r : Room} {c : WindowRec} (h : r.Sound c) (hm : c.mode = .queue) (hn : c.bankCount ≤ 8)
    (hb : ∀ b, r.state b ≠ .free → b.val < c.bankCount) :
    r.order.length + (c.bankIds.filter fun b => decide (r.state b = .free)).length + (if r.bank = none then 0 else 1) =
      c.bankCount := by
  have hqueued : (c.bankIds.filter fun b => decide (r.state b = .queued)).length = r.order.length := by
    refine ((List.perm_ext_iff_of_nodup (c.bankIds_nodup.filter _) h.queuedOnce).mpr fun b => ?_).length_eq
    rw [List.mem_filter, h.queued, decide_eq_true_eq, WindowRec.mem_bankIds]
    exact ⟨And.right, fun hq => ⟨hb b (by simp [hq]), hq⟩⟩
  have hprod : (c.bankIds.filter fun b => (r.state b).isProducer).length = if r.bank = none then 0 else 1 := by
    have hmem : ∀ b, b ∈ c.bankIds.filter (fun b => (r.state b).isProducer) ↔ r.bank = some b := fun b => by
      rw [List.mem_filter, WindowRec.mem_bankIds, h.producer]
      refine ⟨And.right, fun hp => ⟨hb b fun hf => ?_, hp⟩⟩
      have := (h.producer b).mpr hp
      rw [hf] at this
      exact absurd this (by decide)
    have hperm : (c.bankIds.filter fun b => (r.state b).isProducer).Perm r.bank.toList := by
      refine (List.perm_ext_iff_of_nodup (c.bankIds_nodup.filter _) ?_).mpr fun b => ?_
      · cases r.bank <;> simp
      · rw [hmem]
        simp
    rw [hperm.length_eq]
    cases r.bank <;> rfl
  have hlen := length_eq_by_state r.state c.bankIds fun b _ => h.queue_states hm b
  rw [hqueued, hprod, WindowRec.bankIds_length hn] at hlen
  exact hlen.symm

/-- In SNAPSHOT the order list is empty (R88). -/
theorem Room.Sound.noOrder {r : Room} {c : WindowRec} (h : r.Sound c) (hm : c.mode = .snapshot) : r.order = [] := by
  refine List.eq_nil_iff_forall_not_mem.mpr fun b hb => ?_
  have hmode := h.modes b
  rw [(h.queued b).mp hb, hm] at hmode
  exact absurd hmode (by decide)

/-! #### The invariant, window by window -/

/-- The invariant of the exchange, stated of each window's room. -/
structure State.RoomsSound (s : State) : Prop where
  pool : s.PoolAgrees
  records : ∀ w, (s.win w).life ≠ .off → ∀ y, y ≠ .pool → s.PassesCheck w y
  active : ∀ w, (s.win w).life = .active → (s.room w).Sound (s.cfg w) ∧ s.ClaimsSettled w
  suspended : ∀ w, (s.win w).life = .suspended → s.room w = .clear ∧ s.ClaimsSettled w
  noJobs : ∀ w, (s.win w).life ≠ .active → (s.room w).jobs = []

/-- The counts of an ACTIVE window follow from its room, its record and the pool. -/
theorem State.banksCounted {s : State} {w : WinId} (hp : s.PoolAgrees)
    (hr : ∀ y, y ≠ .pool → s.PassesCheck w y) (h : (s.room w).Sound (s.cfg w)) : s.BanksCounted w := by
  have hn := State.bankCount_le (hr .bankCount (by decide))
  have hsmall : ∀ b, (s.room w).state b ≠ .free → b.val < (s.cfg w).bankCount := fun b hb =>
    ((hp.owned w b).mp (State.owned_of_not_free hb)).2
  refine ⟨fun hm hb => ?_, fun hm => h.noOrder hm, fun hm => h.sum hm hn hsmall⟩
  obtain ⟨_, hports, _⟩ := hr .ports (by decide)
  obtain ⟨hbanks, _⟩ := hr .bankCount (by decide)
  refine h.exists_free hm hb hn ?_
  have := hports hm
  have := hbanks hm
  have : (s.cfg w).bankCount = (s.cfg w).banks.toNat := rfl
  omega

theorem Engine.mem_destsOf (e : Engine) (w : WinId) (b : BankId) :
    b ∈ e.destsOf w ↔ ∃ j ∈ e.jobs, j.aborted = false ∧ j.window = w ∧ j.dest = b := by
  simp only [Engine.destsOf, List.mem_map, List.mem_filter, Bool.and_eq_true, Bool.not_eq_true', decide_eq_true_eq]
  exact exists_congr fun j => by tauto

/-- Jobs of pairwise different windows: at most one each. -/
theorem Engine.oneJob_iff (e : Engine) :
    (e.jobs.filter fun j => !j.aborted).Pairwise (fun a b => a.window ≠ b.window) ↔ ∀ w, (e.destsOf w).length ≤ 1 := by
  have hcount : ∀ w, (e.destsOf w).length = ((e.jobs.filter fun j => !j.aborted).map Job.window).count w := fun w => by
    rw [Engine.destsOf, List.length_map, List.count_eq_countP, List.countP_map, List.countP_filter, List.countP_eq_length_filter]
    refine congrArg List.length (List.filter_congr fun j _ => ?_)
    by_cases hw : j.window = w <;> simp [hw]
  rw [← List.pairwise_map (f := Job.window) (R := fun a b => a ≠ b)]
  refine List.nodup_iff_count_le_one.trans (forall_congr' fun w => ?_)
  rw [hcount]

theorem State.exchangeSound_iff (s : State) : s.ExchangeSound ↔ s.RoomsSound := by
  constructor
  · intro h
    have hdest : ∀ w b, b ∈ s.engine.destsOf w → (s.win w).life = .active ∧ (s.bank w b).state = .merging := by
      intro w b hb
      obtain ⟨j, hj, hab, rfl, rfl⟩ := (s.engine.mem_destsOf w b).mp hb
      exact h.jobs j hj hab
    have hno : ∀ w, (s.win w).life ≠ .active → s.engine.destsOf w = [] := fun w hw =>
      List.eq_nil_iff_forall_not_mem.mpr fun b hb => hw (hdest w b hb).1
    refine ⟨h.pool, h.records, fun w ha => ?_, fun w hs => ?_, hno⟩
    · obtain ⟨hbanks, hclaims, _⟩ := h.active w ha
      exact (s.agree_iff w).mp ⟨hbanks, hclaims, fun b hb => (hdest w b hb).2, s.engine.oneJob_iff.mp h.oneJob w⟩
    · exact (s.banksClear_iff w).mp ⟨h.suspended w hs, hno w (by simp [hs])⟩
  · intro h
    have hlive : ∀ j ∈ s.engine.jobs, j.aborted = false → (s.win j.window).life = .active := fun j hj hab => by
      by_contra hn
      have hmem : j.dest ∈ s.engine.destsOf j.window := (s.engine.mem_destsOf _ _).mpr ⟨j, hj, hab, rfl, rfl⟩
      rw [show s.engine.destsOf j.window = [] from h.noJobs _ hn] at hmem
      exact nomatch hmem
    refine ⟨h.pool, h.records, fun w ha => ?_, fun w hs => ((s.banksClear_iff w).mpr (h.suspended w hs)).1, fun j hj hab => ?_,
      s.engine.oneJob_iff.mpr fun w => ?_⟩
    · obtain ⟨hbanks, hclaims, _⟩ := (s.agree_iff w).mpr (h.active w ha)
      exact ⟨hbanks, hclaims, State.banksCounted h.pool (h.records w (by simp [ha])) (h.active w ha).1⟩
    · exact ⟨hlive j hj hab,
        (h.active _ (hlive j hj hab)).1.merging _ ((s.engine.mem_destsOf _ _).mpr ⟨j, hj, hab, rfl, rfl⟩)⟩
    · by_cases ha : (s.win w).life = .active
      · exact (h.active w ha).1.oneJob
      · rw [show s.engine.destsOf w = [] from h.noJobs w ha]
        exact Nat.zero_le 1

end Sys2Proof.Machine
end

section
/-! ### What the events of a session and of a claim do to a sound room -/

namespace Sys2Proof.Machine

open Sys2Proof

set_option Elab.async false

namespace Room

/-! #### The events -/

/-- The session's bank takes a state: it is the producer bank while the state is one of a producer bank, joins the order list as
it becomes QUEUED, and has a job as it becomes MERGING. -/
def session (r : Room) (b : BankId) (x : BankState) (d : Option Stamp) : Room :=
  { r with
    state := Function.update r.state b x
    bank := if x.isProducer then some b else none
    opendl := d
    order := if x = .queued then r.order ++ [b] else r.order
    jobs := if x = .merging then r.jobs ++ [b] else r.jobs }

/-- The CURRENT bank leaves that state: HELD if claimed, else FREE (R40). -/
def superseded (r : Room) : Room :=
  { r with state := fun b => if r.state b = .current then (if r.holders b = 0 then .free else .held) else r.state b }

/-- A claim of a port begins or ends. -/
def setClaim (r : Room) (p : PortId) (o : Option BankId) : Room := { r with claimed := Function.update r.claimed p o }

/-- A SNAPSHOT claim opens (R52). -/
def joined (r : Room) (p : PortId) (b : BankId) : Room :=
  { r.setClaim p (some b) with holders := Function.update r.holders b (addPort (r.holders b) p) }

/-- A SNAPSHOT claim ends (R60). -/
def left (r : Room) (p : PortId) (b : BankId) : Room :=
  { r.setClaim p none with
    holders := Function.update r.holders b (removePort (r.holders b) p)
    state := Function.update r.state b (if r.state b = .held ∧ removePort (r.holders b) p = 0 then .free else r.state b) }

/-- The head of the order list leaves it, and its claim ends (R106). -/
def delivered (r : Room) (p : PortId) (b : BankId) : Room :=
  { r.setClaim p none with state := Function.update r.state b .free, order := r.order.tail }

/-! #### They keep a room sound -/

/-- No bank is CURRENT then. -/
theorem superseded_state_ne (r : Room) (a : BankId) : r.superseded.state a ≠ .current := by
  simp only [Room.superseded]
  split_ifs with hc <;> simp [*]

namespace Sound

variable {r : Room} {c : WindowRec}

/-- The producer bank is in one of the producer's states. -/
theorem state_of_bank (h : r.Sound c) {b : BankId} (hb : r.bank = some b) : (r.state b).isProducer = true := (h.producer b).mpr hb

/-- A merge job is for the producer bank. -/
theorem jobs_nil (h : r.Sound c) (hb : ∀ b, r.bank = some b → r.state b ≠ .merging) : r.jobs = [] :=
  List.eq_nil_iff_forall_not_mem.mpr fun a ha =>
    have hm := h.merging a ha
    hb a ((h.producer a).mp (by rw [hm]; rfl)) hm

/-- The state of a session's bank changes. -/
theorem session (h : r.Sound c) {b : BankId} (hb : r.state b = .free ∨ (r.state b).isProducer = true)
    (hother : ∀ a, r.bank = some a → a = b) (hjobs : r.jobs = []) {x : BankState} (hmode : x.inMode c.mode = true)
    {d : Option Stamp} (hd : d ≠ none → x = .filling) (hheld : x ≠ .held)
    (hcur : x = .current → ∀ a, r.state a ≠ .current) : (r.session b x d).Sound c := by
  have hquiet : r.state b ≠ .current ∧ r.state b ≠ .held ∧ r.state b ≠ .queued := by
    rcases hb with hb | hb <;> cases hs : r.state b <;> simp_all [BankState.isProducer]
  have hnot : b ∉ r.order := fun hm => hquiet.2.2 ((h.queued b).mp hm)
  constructor
  case modes =>
    exact (Function.forall_update_iff _ fun _ (y : BankState) => y.inMode c.mode = true).mpr ⟨hmode, fun a _ => h.modes a⟩
  case producer =>
    refine (Function.forall_update_iff _ fun a (y : BankState) =>
      y.isProducer = true ↔ (if x.isProducer then some b else none) = some a).mpr
        ⟨by cases x.isProducer <;> simp, fun a ha => ?_⟩
    have hno : ¬ (r.state a).isProducer = true := fun hp => ha (hother a ((h.producer a).mp hp))
    simp [hno, Ne.symm ha]
  case oneCurrent =>
    intro a a' ha ha'
    simp only [Room.session, Function.update_apply] at ha ha'
    split_ifs at ha ha' with e e'
    · exact e.trans e'.symm
    · exact absurd ha' (hcur ha a')
    · exact absurd ha (hcur ha' a)
    · exact h.oneCurrent a a' ha ha'
  case heldHeld =>
    exact (Function.forall_update_iff _ fun a (y : BankState) => y = .held → r.holders a ≠ 0).mpr
      ⟨fun hx => absurd hx hheld, fun a _ => h.heldHeld a⟩
  case deadline =>
    intro hne
    obtain rfl := hd hne
    exact ⟨b, rfl, Function.update_self ..⟩
  case queued =>
    intro a
    simp only [Room.session, Function.update_apply]
    by_cases hx : x = .queued <;> by_cases ha : a = b <;> simp [hx, ha, hnot, h.queued]
  case queuedOnce =>
    simp only [Room.session]
    split_ifs
    · exact List.nodup_append.mpr ⟨h.queuedOnce, List.nodup_singleton b, fun a ha e he =>
        fun hae => hnot (List.mem_singleton.mp he ▸ hae ▸ ha)⟩
    · exact h.queuedOnce
  case consumer => exact h.consumer
  case image =>
    intro hm p a hp
    have hi := h.image hm p a hp
    have ha : a ≠ b := fun e => hi.elim (e ▸ hquiet.1) (e ▸ hquiet.2.1)
    simpa [Room.session, ha] using hi
  case holders => exact h.holders
  case head =>
    intro hm p a hp
    have ho := h.head hm p a hp
    simp only [Room.session]
    split_ifs
    · simp [List.head?_append, ho]
    · exact ho
  case noHolders => exact h.noHolders
  case merging =>
    intro a ha
    simp only [Room.session, hjobs] at ha
    split_ifs at ha with hx
    · obtain rfl : a = b := by simpa using ha
      simp [Room.session, hx]
    · exact nomatch ha
  case oneJob =>
    simp only [Room.session, hjobs]
    split_ifs <;> simp

/-- The CURRENT bank is superseded. -/
theorem superseded (h : r.Sound c) (hm : c.mode = .snapshot) : r.superseded.Sound c := by
  have hstate : ∀ a, r.superseded.state a = r.state a ∨
      r.state a = .current ∧ (r.superseded.state a = .free ∨ r.superseded.state a = .held ∧ r.holders a ≠ 0) := fun a => by
    simp only [Room.superseded]
    split_ifs with hc h0
    · exact .inr ⟨hc, .inl rfl⟩
    · exact .inr ⟨hc, .inr ⟨rfl, h0⟩⟩
    · exact .inl rfl
  constructor
  case modes =>
    intro a
    rcases hstate a with e | ⟨_, e | ⟨e, _⟩⟩ <;> rw [e]
    · exact h.modes a
    · rfl
    · simp [BankState.inMode, hm]
  case producer =>
    intro a
    refine Iff.trans ?_ (h.producer a)
    rcases hstate a with e | ⟨hc, e | ⟨e, _⟩⟩ <;> rw [e]
    all_goals simp [hc, BankState.isProducer]
  case oneCurrent => exact fun a _ ha => absurd ha (r.superseded_state_ne a)
  case heldHeld =>
    intro a ha
    rcases hstate a with e | ⟨_, e | ⟨_, h0⟩⟩
    · exact h.heldHeld a (e ▸ ha)
    · rw [e] at ha
      exact nomatch ha
    · exact h0
  case deadline =>
    intro hne
    obtain ⟨b, hb, hf⟩ := h.deadline hne
    exact ⟨b, hb, by simp [Room.superseded, hf]⟩
  case queued =>
    intro a
    refine (h.queued a).trans ?_
    rcases hstate a with e | ⟨hc, e | ⟨e, _⟩⟩ <;> rw [e]
    all_goals simp [hc]
  case queuedOnce => exact h.queuedOnce
  case consumer => exact h.consumer
  case image =>
    intro _ p a hp
    have h0 : r.holders a ≠ 0 := fun h0 => by
      have := (h.holders hm p a).mpr hp
      simp [h0, hasPort] at this
    refine .inr ?_
    rcases h.image hm p a hp with e | e <;> simp only [Room.superseded, e, if_true, if_neg h0, reduceCtorEq, if_false]
  case holders => exact h.holders
  case head => exact h.head
  case noHolders => exact h.noHolders
  case merging =>
    intro a ha
    simp [Room.superseded, h.merging a ha]
  case oneJob => exact h.oneJob

/-- A SNAPSHOT claim opens on the CURRENT bank. -/
theorem joined (h : r.Sound c) {p : PortId} {b : BankId} (hp : r.claimed p = none) (hc : hasPort c.consumers p = true)
    (hb : r.state b = .current) (hm : c.mode = .snapshot) : (r.joined p b).Sound c := by
  constructor
  case modes => exact h.modes
  case producer => exact h.producer
  case oneCurrent => exact h.oneCurrent
  case heldHeld =>
    intro a ha
    have hab : a ≠ b := by
      rintro rfl
      rw [show r.state a = .held from ha] at hb
      exact nomatch hb
    simpa [Room.joined, Room.setClaim, hab] using h.heldHeld a ha
  case deadline => exact h.deadline
  case queued => exact h.queued
  case queuedOnce => exact h.queuedOnce
  case consumer =>
    exact (Function.forall_update_iff _ fun q (o : Option BankId) => o ≠ none → hasPort c.consumers q = true).mpr
      ⟨fun _ => hc, fun q _ => h.consumer q⟩
  case image =>
    intro _
    refine (Function.forall_update_iff _ fun _ (o : Option BankId) =>
      ∀ a, o = some a → r.state a = .current ∨ r.state a = .held).mpr ⟨fun a ha => ?_, fun q _ => h.image hm q⟩
    obtain rfl := Option.some.inj ha
    exact .inl hb
  case holders =>
    intro _ q a
    have hq := h.holders hm q a
    simp only [Room.joined, Room.setClaim, Function.update_apply]
    by_cases hqp : q = p <;> by_cases hab : a = b
    · simp [hqp, hab, hasPort_addPort]
    · simp [hqp, hab, Ne.symm hab, hqp ▸ hq, hp]
    · simp [hqp, hab, hasPort_addPort, hab ▸ hq]
    · simp [hqp, hab, hq]
  case head => exact fun hq => absurd (hm.symm.trans hq) (by decide)
  case noHolders => exact fun hq => absurd (hm.symm.trans hq) (by decide)
  case merging => exact h.merging
  case oneJob => exact h.oneJob

/-- A QUEUE claim opens on the head of the order list. -/
theorem delivers (h : r.Sound c) {p : PortId} {b : BankId} (hc : hasPort c.consumers p = true)
    (hb : r.order.head? = some b) (hm : c.mode = .queue) : (r.setClaim p (some b)).Sound c := by
  have hno : c.mode ≠ .snapshot := by simp [hm]
  exact { h with
    consumer := (Function.forall_update_iff _ fun q (o : Option BankId) => o ≠ none → hasPort c.consumers q = true).mpr
      ⟨fun _ => hc, fun q _ => h.consumer q⟩
    image := fun hs => absurd hs hno
    holders := fun hs => absurd hs hno
    head := fun _ => (Function.forall_update_iff _ fun _ (o : Option BankId) => ∀ a, o = some a → r.order.head? = some a).mpr
      ⟨fun a ha => hb.trans ha, fun q _ => h.head hm q⟩ }

/-- A QUEUE claim ends and the message stays. -/
theorem undelivered (h : r.Sound c) (p : PortId) (hm : c.mode = .queue) : (r.setClaim p none).Sound c := by
  have hno : c.mode ≠ .snapshot := by simp [hm]
  exact { h with
    consumer := (Function.forall_update_iff _ fun q (o : Option BankId) => o ≠ none → hasPort c.consumers q = true).mpr
      ⟨fun hne => absurd rfl hne, fun q _ => h.consumer q⟩
    image := fun hs => absurd hs hno
    holders := fun hs => absurd hs hno
    head := fun _ => (Function.forall_update_iff _ fun _ (o : Option BankId) => ∀ a, o = some a → r.order.head? = some a).mpr
      ⟨fun a ha => (nomatch ha), fun q _ => h.head hm q⟩ }

/-- A SNAPSHOT claim ends. -/
theorem left (h : r.Sound c) {p : PortId} {b : BankId} (hp : r.claimed p = some b) (hm : c.mode = .snapshot) :
    (r.left p b).Sound c := by
  have hb := h.image hm p b hp
  have hstate : ∀ a, (r.left p b).state a = r.state a ∨
      a = b ∧ removePort (r.holders b) p = 0 ∧ r.state a = .held ∧ (r.left p b).state a = .free := fun a => by
    by_cases hab : a = b
    · subst hab
      simp only [Room.left, Function.update_self]
      split_ifs with hf
      · exact .inr (by simp [hf])
      · exact .inl rfl
    · exact .inl (by simp [Room.left, hab])
  constructor
  case modes =>
    intro a
    rcases hstate a with e | ⟨_, _, _, e⟩ <;> rw [e]
    · exact h.modes a
    · rfl
  case producer =>
    intro a
    refine Iff.trans ?_ (h.producer a)
    rcases hstate a with e | ⟨_, _, hh, e⟩ <;> rw [e]
    rw [hh]
    decide
  case oneCurrent =>
    intro a a' ha ha'
    rcases hstate a with e | ⟨_, _, _, e⟩ <;> rw [e] at ha
    · rcases hstate a' with e' | ⟨_, _, _, e'⟩ <;> rw [e'] at ha'
      · exact h.oneCurrent a a' ha ha'
      · exact nomatch ha'
    · exact nomatch ha
  case heldHeld =>
    intro a ha
    by_cases hab : a = b
    · subst hab
      simp only [Room.left, Function.update_self] at ha ⊢
      split_ifs at ha with hf
      exact fun h0 => hf ⟨ha, h0⟩
    · have := h.heldHeld a
      simp_all [Room.left]
  case deadline =>
    intro hne
    obtain ⟨a, ha, hf⟩ := h.deadline hne
    refine ⟨a, ha, ?_⟩
    rcases hstate a with e | ⟨_, _, hh, _⟩
    · exact e.trans hf
    · exact absurd (hh.symm.trans hf) (by decide)
  case queued =>
    intro a
    refine (h.queued a).trans ?_
    rcases hstate a with e | ⟨_, _, hh, e⟩ <;> rw [e]
    rw [hh]
    decide
  case queuedOnce => exact h.queuedOnce
  case consumer =>
    exact (Function.forall_update_iff _ fun q (o : Option BankId) => o ≠ none → hasPort c.consumers q = true).mpr
      ⟨fun hne => absurd rfl hne, fun q _ => h.consumer q⟩
  case image =>
    intro _ q a hq
    simp only [Room.left, Room.setClaim, Function.update_apply] at hq
    split_ifs at hq with hqp
    rcases hstate a with e | ⟨rfl, h0, _, _⟩
    · rw [e]
      exact h.image hm q a hq
    · have hleft := (hasPort_removePort (r.holders a) p q).mpr ⟨hqp, (h.holders hm q a).mpr hq⟩
      rw [h0] at hleft
      simp [hasPort] at hleft
  case holders =>
    intro _ q a
    have hq := h.holders hm q a
    simp only [Room.left, Room.setClaim, Function.update_apply]
    by_cases hqp : q = p <;> by_cases hab : a = b
    · simp [hqp, hab, hasPort_removePort]
    · subst hqp
      simp [hab, hq, hp, Ne.symm hab]
    · simp [hqp, hab, hasPort_removePort, hab ▸ hq]
    · simp [hqp, hab, hq]
  case head => exact fun hq => absurd (hm.symm.trans hq) (by decide)
  case noHolders => exact fun hq => absurd (hm.symm.trans hq) (by decide)
  case merging =>
    intro a ha
    have hmg := h.merging a ha
    rcases hstate a with e | ⟨_, _, hh, _⟩
    · exact e.trans hmg
    · exact absurd (hh.symm.trans hmg) (by decide)
  case oneJob => exact h.oneJob

/-- The message at the head is delivered; the one consumer of a QUEUE window has the one claim. -/
theorem delivered (h : r.Sound c) {p : PortId} {b : BankId} (hp : r.claimed p = some b) (hone : portCount c.consumers = 1)
    (hm : c.mode = .queue) : (r.delivered p b).Sound c := by
  have hno : c.mode ≠ .snapshot := by simp [hm]
  obtain ⟨rest, horder⟩ : ∃ rest, r.order = b :: rest := by
    have := h.head hm p b hp
    cases ho : r.order with
    | nil => simp [ho] at this
    | cons a rest => exact ⟨rest, by simpa [ho] using this⟩
  have hbq : r.state b = .queued := (h.queued b).mp (by simp [horder])
  obtain ⟨hbrest, hrest⟩ := List.nodup_cons.mp (horder ▸ h.queuedOnce)
  have hnone : ∀ q, (r.delivered p b).claimed q = none := fun q => by
    by_contra hq
    have hne : q ≠ p := fun e => hq (by simp [Room.delivered, Room.setClaim, e])
    have hq' : r.claimed q ≠ none := by simpa [Room.delivered, Room.setClaim, hne] using hq
    have hcard := portCount_eq_card c.consumers
    rw [hone] at hcard
    obtain ⟨x, hx⟩ := Finset.card_eq_one.mp hcard.symm
    have hmem : ∀ y, r.claimed y ≠ none → y = x := fun y hy => by
      have : y ∈ Finset.univ.filter fun p : PortId => hasPort c.consumers p = true := by simpa using h.consumer y hy
      simpa [hx] using this
    exact hne ((hmem q hq').trans (hmem p (by simp [hp])).symm)
  have hstate : ∀ a, a ≠ b → (r.delivered p b).state a = r.state a := fun a ha => by simp [Room.delivered, ha]
  have hfree : (r.delivered p b).state b = .free := by simp [Room.delivered]
  constructor
  case modes =>
    exact (Function.forall_update_iff _ fun _ (y : BankState) => y.inMode c.mode = true).mpr ⟨rfl, fun a _ => h.modes a⟩
  case producer =>
    intro a
    refine Iff.trans ?_ (h.producer a)
    by_cases ha : a = b
    · rw [ha, hfree, hbq]
      decide
    · rw [hstate a ha]
  case oneCurrent =>
    intro a a' ha
    by_cases hab : a = b
    · rw [hab, hfree] at ha
      exact nomatch ha
    · have := h.modes a
      rw [← hstate a hab, ha, hm] at this
      exact absurd this (by decide)
  case heldHeld =>
    intro a ha
    by_cases hab : a = b
    · rw [hab, hfree] at ha
      exact nomatch ha
    · exact h.heldHeld a (hstate a hab ▸ ha)
  case deadline =>
    intro hne
    obtain ⟨a, ha, hf⟩ := h.deadline hne
    refine ⟨a, ha, (hstate a ?_).trans hf⟩
    rintro rfl
    exact absurd (hbq.symm.trans hf) (by decide)
  case queued =>
    intro a
    by_cases hab : a = b
    · rw [hab, hfree]
      simp [Room.delivered, horder, hbrest]
    · rw [hstate a hab, ← h.queued a]
      simp [Room.delivered, horder, hab]
  case queuedOnce => simpa [Room.delivered, horder] using hrest
  case consumer => exact fun q hq => absurd (hnone q) hq
  case image => exact fun hs => absurd hs hno
  case holders => exact fun hs => absurd hs hno
  case head => exact fun _ q a hq => by simp [hnone q] at hq
  case noHolders => exact h.noHolders
  case merging =>
    intro a ha
    have hmg := h.merging a ha
    refine (hstate a ?_).trans hmg
    rintro rfl
    exact absurd (hbq.symm.trans hmg) (by decide)
  case oneJob => exact h.oneJob

end Sound

end Room

end Sys2Proof.Machine
end

section
/-! ### How the operations of a window change its room -/

namespace Sys2Proof.Machine

open Sys2Proof

set_option Elab.async false

/-! #### The room after a plain change -/

theorem State.room_modWin (s : State) (w : WinId) (f : WinCtl → WinCtl) : (s.modWin w f).room w =
    { s.room w with
      bank := (f (s.win w)).prod.bank
      opendl := (f (s.win w)).prod.opendl
      order := (f (s.win w)).order
      claimed := fun p => (f (s.win w)).claims[p].bank } := by
  simp only [State.room, State.claim, State.win_modWin_same, State.modWin_bank, State.modWin_engine]

theorem State.room_modBank {s : State} {w : WinId} {b : BankId} (own : (s.recordOf w b).isSome = true) (f : BankRec → BankRec) :
    (s.modBank w b f).room w =
      { s.room w with
        state := Function.update (s.room w).state b (f (s.bank w b)).state
        holders := Function.update (s.room w).holders b (f (s.bank w b)).holders } := by
  have hbank : ∀ a, (s.modBank w b f).bank w a =
      if a = b then { f (s.bank w b) with owner := (s.bank w b).owner, pbase := (s.bank w b).pbase } else s.bank w a := fun a => by
    split_ifs with hab
    · rw [hab, State.bank_modBank_same s f own]
    · exact State.bank_modBank_ne s f fun e => hab e.2
  refine Room.ext (funext fun a => ?_) (funext fun a => ?_) rfl rfl rfl rfl rfl
  all_goals
    simp only [State.room, hbank, Function.update_apply]
    split_ifs <;> rfl

/-- State t results from state s by operations of window w, with room r of the window. -/
structure State.Leads (s : State) (w : WinId) (r : Room) (t : State) : Prop where
  acts : s.Acts w t
  room : t.room w = r
  settled : s.ClaimsSettled w → t.ClaimsSettled w

/-- Operations that leave the window's room as it is. -/
abbrev State.Quiet (s : State) (w : WinId) (t : State) : Prop := s.Leads w (s.room w) t

namespace State.Leads

variable {s t u : State} {w : WinId} {r q : Room}

theorem refl : s.Quiet w s := ⟨.refl, rfl, id⟩

theorem trans (h : s.Leads w r t) (k : t.Leads w q u) : s.Leads w q u := ⟨h.acts.trans k.acts, k.room, k.settled ∘ h.settled⟩

theorem quiet (h : s.Leads w r t) (k : t.Quiet w u) : s.Leads w r u := h.trans (h.room ▸ k)

/-- The same with another name for the room. -/
theorem cast (h : s.Leads w r t) (e : r = q) : s.Leads w q t := e ▸ h

/-! #### The plain operations -/

/-- A change of the controller that keeps the claim records. -/
theorem modWin (h : s.Leads w r t) (f : WinCtl → WinCtl) (life : ∀ x, (f x).life = x.life := by exact fun _ => rfl)
    (seq : ∀ x, (f x).prod.nextseq = x.prod.nextseq ∨ (f x).prod.nextseq = nextSeq x.prod.nextseq := by exact fun _ => .inl rfl)
    (claims : ∀ x, (f x).claims = x.claims := by exact fun _ => rfl) :
    s.Leads w { r with bank := (f (t.win w)).prod.bank, opendl := (f (t.win w)).prod.opendl, order := (f (t.win w)).order }
      (t.modWin w f) where
  acts := h.acts.modWin f life seq
  room := by
    rw [room_modWin, h.room, claims]
    obtain rfl := h.room
    rfl
  settled hs p := by
    rw [State.claim, State.win_modWin_same, claims]
    exact h.settled hs p

/-- A change of the controller that the room does not show. -/
theorem win (h : s.Leads w r t) (f : WinCtl → WinCtl) (life : ∀ x, (f x).life = x.life := by exact fun _ => rfl)
    (seq : ∀ x, (f x).prod.nextseq = x.prod.nextseq := by exact fun _ => rfl)
    (claims : ∀ x, (f x).claims = x.claims := by exact fun _ => rfl)
    (bank : ∀ x, (f x).prod.bank = x.prod.bank := by exact fun _ => rfl)
    (opendl : ∀ x, (f x).prod.opendl = x.prod.opendl := by exact fun _ => rfl)
    (order : ∀ x, (f x).order = x.order := by exact fun _ => rfl) : s.Leads w r (t.modWin w f) :=
  (h.modWin f life (fun x => .inl (seq x)) claims).cast (by rw [bank, opendl, order, ← h.room]; rfl)

theorem countRefusal (h : s.Leads w r t) : s.Leads w r (t.countRefusal w) := h.win _
theorem countExpiry (h : s.Leads w r t) : s.Leads w r (t.countExpiry w) := h.win _
theorem countDrop (h : s.Leads w r t) : s.Leads w r (t.countDrop w) := h.win _
theorem countCommit (h : s.Leads w r t) : s.Leads w r (t.countCommit w) := h.win _
theorem opStarted (h : s.Leads w r t) : s.Leads w r (t.opStarted w) := h.win _
theorem opEnded (h : s.Leads w r t) : s.Leads w r (t.opEnded w) := h.win _
theorem writeSteered (h : s.Leads w r t) : s.Leads w r (t.writeSteered w) :=
  h.win fun x => { x with prod := { x.prod with lastrefused := false } }

/-- A change of the producer record that sets bank and open deadline. -/
theorem modProd (h : s.Leads w r t) (f : ProducerRec → ProducerRec) {b : Option BankId} {d : Option Stamp}
    (bank : ∀ x, (f x).bank = b := by exact fun _ => rfl) (opendl : ∀ x, (f x).opendl = d := by exact fun _ => rfl)
    (seq : ∀ x, (f x).nextseq = x.nextseq ∨ (f x).nextseq = nextSeq x.nextseq := by exact fun _ => .inl rfl) :
    s.Leads w { r with bank := b, opendl := d } (t.modProd w f) :=
  (h.modWin (fun x => { x with prod := f x.prod }) (fun _ => rfl) fun x => seq x.prod).cast (by
    obtain rfl := h.room
    simp only [bank, opendl]
    rfl)

/-- The open deadline is cancelled. -/
theorem cancelOpen (h : s.Leads w r t) : s.Leads w { r with opendl := none } (t.modProd w fun r => { r with opendl := none }) :=
  (h.modWin fun x => { x with prod := { x.prod with opendl := none } }).cast (by obtain rfl := h.room; rfl)

theorem bank (h : s.Leads w r t) {b : BankId} (own : (t.recordOf w b).isSome = true) (f : BankRec → BankRec)
    (cover : ∀ r, (f r).cover = r.cover ∨ (f r).cover = [] ∨ ∃ gs, (f r).cover = insertGranules gs r.cover) :
    s.Leads w { r with state := Function.update r.state b (f (t.bank w b)).state
                       holders := Function.update r.holders b (f (t.bank w b)).holders } (t.modBank w b f) where
  acts := h.acts.modBank b f cover
  room := by rw [room_modBank own, h.room]
  settled := h.settled

/-- A bank takes a state; the change may touch what the room does not show. -/
theorem bankState (h : s.Leads w r t) {b : BankId} (own : (t.recordOf w b).isSome = true) (f : BankRec → BankRec) (x : BankState)
    (cover : ∀ r, (f r).cover = r.cover ∨ (f r).cover = [] ∨ ∃ gs, (f r).cover = insertGranules gs r.cover
      := by exact fun _ => .inl rfl)
    (state : ∀ r, (f r).state = x := by exact fun _ => rfl)
    (holders : ∀ r, (f r).holders = r.holders := by exact fun _ => rfl) :
    s.Leads w { r with state := Function.update r.state b x } (t.modBank w b f) :=
  (h.bank own f cover).cast (by
    obtain rfl := h.room
    rw [state, holders]
    congr
    exact Function.update_eq_self b _)

/-- A change of a bank record that the room does not show. -/
theorem quietBank (h : s.Leads w r t) (b : BankId) (f : BankRec → BankRec)
    (cover : ∀ r, (f r).cover = r.cover ∨ (f r).cover = [] ∨ ∃ gs, (f r).cover = insertGranules gs r.cover
      := by exact fun _ => .inl rfl)
    (state : ∀ r, (f r).state = r.state := by exact fun _ => rfl)
    (holders : ∀ r, (f r).holders = r.holders := by exact fun _ => rfl) :
    s.Leads w r (t.modBank w b f) := by
  by_cases own : (t.recordOf w b).isSome = true
  · refine (h.bank own f cover).cast ?_
    obtain rfl := h.room
    rw [state, holders]
    refine Room.ext (Function.update_eq_self b _) (Function.update_eq_self b _) rfl rfl rfl rfl rfl
  · have hid : t.modBank w b f = t := by
      rw [Option.not_isSome_iff_eq_none] at own
      simp [State.modBank, own, modRecord]
    rwa [hid]

theorem modEntries (h : s.Leads w r t) (p : PortId) (f : List Entry → List Entry) : s.Leads w r (t.modEntries p f) :=
  ⟨h.acts.modEntries p f, h.room, h.settled⟩

theorem releaseEvent (h : s.Leads w r t) (x : WinId) (p : PortId) : s.Leads w r (t.releaseEvent x p) := h.modEntries p _

theorem offer (h : s.Leads w r t) (k : FaultKind) (x : Option WinId) (p : Option PortId) (l : Option Nat) :
    s.Leads w r (t.offer k x p l) :=
  ⟨h.acts.offer k x p l, h.room, h.settled⟩

theorem handOver (h : s.Leads w r t) (q : Requester) (parts : List MemReq) : s.Leads w r (t.handOver q parts) :=
  ⟨h.acts.handOver q parts, h.room, h.settled⟩

theorem requestOp (h : s.Leads w r t) (q : MemReq) : s.Leads w r (t.requestOp w q) := h.opStarted.handOver _ _

/-- A claim record changes. -/
theorem modClaim (h : s.Leads w r t) (p : PortId) (f : Claim → Claim) {o : Option BankId} (bank : (f (t.claim w p)).bank = o)
    (idle : t.ClaimsSettled w → (f (t.claim w p)).Settled) : s.Leads w (r.setClaim p o) (t.modClaim w p f) where
  acts := h.acts.modClaim p f
  room := by
    obtain rfl := h.room
    refine Room.ext rfl rfl ?_ ?_ ?_ (funext fun q => ?_) rfl
    · simp [State.room, Room.setClaim]
    · simp [State.room, Room.setClaim]
    · simp [State.room, Room.setClaim]
    · by_cases hq : q = p
      · simp [State.room, Room.setClaim, hq, bank]
      · simp [State.room, Room.setClaim, hq, State.claim_modClaim_ne t w f hq]
  settled hs q := by
    by_cases hq : q = p
    · rw [hq, State.claim_modClaim_same]
      exact idle (h.settled hs)
    · rw [State.claim_modClaim_ne t w f hq]
      exact h.settled hs q

/-- A claim record changes and keeps its bank. -/
theorem quietClaim (h : s.Leads w r t) (p : PortId) (f : Claim → Claim)
    (bank : ∀ k, (f k).bank = k.bank := by exact fun _ => rfl)
    (idle : (t.claim w p).Settled → (f (t.claim w p)).Settled) : s.Leads w r (t.modClaim w p f) :=
  (h.modClaim p f (bank _) fun hs => idle (hs p)).cast (by
    obtain rfl := h.room
    exact Room.ext rfl rfl rfl rfl rfl (Function.update_eq_self p _) rfl)

/-- The job list changes, for window w alone. -/
theorem modJobs (h : s.Leads w r t) (f : List Job → List Job) {l : List BankId}
    (other : ∀ x, x ≠ w → (t.modJobs f).engine.destsOf x = t.engine.destsOf x) (own : (t.modJobs f).engine.destsOf w = l) :
    s.Leads w { r with jobs := l } (t.modJobs f) where
  acts := h.acts.modJobs f other
  room := by
    obtain rfl := h.room
    subst own
    rfl
  settled := h.settled

end State.Leads

end Sys2Proof.Machine
end

section
/-! ### The invariant through the operations of one window -/

namespace Sys2Proof.Machine

open Sys2Proof

set_option Elab.async false

/-! #### What a chain of operations keeps of the invariant -/

/-- The record of a window passes the checks of ENABLE still while it is the same, and so are those of the other windows that are
not OFF, none of which was OFF. -/
theorem State.passesCheck_mono {s t : State} {w : WinId} (hw : t.cfg w = s.cfg w)
    (hl : ∀ x, x ≠ w → (t.win x).life ≠ .off → (s.win x).life ≠ .off ∧ t.cfg x = s.cfg x) {y : Reason} (hy : y ≠ .pool)
    (h : s.PassesCheck w y) : t.PassesCheck w y := by
  cases y with
  | pool => exact absurd rfl hy
  | overlapWindow =>
    intro x hx hlive
    obtain ⟨hlive', hcx⟩ := hl x hx hlive
    rw [hw, hcx]
    exact h x hx hlive'
  | overlapShadow =>
    obtain ⟨hothers, hown⟩ := h
    refine ⟨fun x hx hlive => ?_, by rwa [hw]⟩
    obtain ⟨hlive', hcx⟩ := hl x hx hlive
    rw [hw, hcx]
    exact hothers x hx hlive'
  | length | align | bankCount | ports | limits =>
    simp only [State.PassesCheck, hw]
    exact h

/-- The pool agrees with the windows still while the owners are the same, and so are the windows that are not OFF. -/
theorem State.poolAgrees_congr {s t : State} (ho : ∀ i : RecId, t.pool[i].owner = s.pool[i].owner)
    (hl : ∀ x, (t.win x).life ≠ .off ↔ (s.win x).life ≠ .off) (hc : ∀ x, (s.win x).life ≠ .off → t.cfg x = s.cfg x)
    (h : s.PoolAgrees) : t.PoolAgrees := by
  rw [State.poolAgrees_iff] at h ⊢
  obtain ⟨hone, howned⟩ := h
  simp only [ho, hl]
  refine ⟨hone, fun w b => (howned w b).trans (and_congr_right fun hlive => ?_)⟩
  rw [hc w hlive]

namespace State.Acts

variable {s t : State} {w : WinId}

theorem otherRoom (h : s.Acts w t) {x : WinId} (hx : x ≠ w) : t.room x = s.room x := by
  simp only [State.room, State.claim, h.otherWin hx, h.otherBank hx, h.otherJobs hx]

theorem otherSettled (h : s.Acts w t) {x : WinId} (hx : x ≠ w) : t.ClaimsSettled x ↔ s.ClaimsSettled x := by
  simp only [State.ClaimsSettled, State.claim, h.otherWin hx]

theorem poolAgrees (h : s.Acts w t) (hp : s.PoolAgrees) : t.PoolAgrees :=
  State.poolAgrees_congr h.owner (fun x => by rw [h.life]) (fun x _ => h.cfg x) hp

end State.Acts

namespace State.RoomsSound

variable {s t : State} {w : WinId} {r : Room}

/-- After operations of one window the invariant is a matter of that window's room. -/
theorem of_acts (h : s.RoomsSound) (ha : s.Acts w t)
    (active : (s.win w).life = .active → (t.room w).Sound (s.cfg w) ∧ t.ClaimsSettled w)
    (suspended : (s.win w).life = .suspended → t.room w = .clear ∧ t.ClaimsSettled w)
    (noJobs : (s.win w).life ≠ .active → (t.room w).jobs = []) : t.RoomsSound where
  pool := ha.poolAgrees h.pool
  records x hx y hy := by
    rw [ha.life] at hx
    exact State.passesCheck_mono (ha.cfg x) (fun z _ hz => ⟨ha.life z ▸ hz, ha.cfg z⟩) hy (h.records x hx y hy)
  active x hx := by
    rw [ha.life] at hx
    rw [ha.cfg]
    by_cases hxw : x = w
    · subst hxw
      exact active hx
    · rw [ha.otherRoom hxw, ha.otherSettled hxw]
      exact h.active x hx
  suspended x hx := by
    rw [ha.life] at hx
    by_cases hxw : x = w
    · subst hxw
      exact suspended hx
    · rw [ha.otherRoom hxw, ha.otherSettled hxw]
      exact h.suspended x hx
  noJobs x hx := by
    rw [ha.life] at hx
    by_cases hxw : x = w
    · subst hxw
      exact noJobs hx
    · rw [ha.otherRoom hxw]
      exact h.noJobs x hx

/-- Operations of an ACTIVE window that lead to a sound room. -/
theorem leads (h : s.RoomsSound) (hact : (s.win w).life = .active) (l : s.Leads w r t) (hr : r.Sound (s.cfg w)) :
    t.RoomsSound :=
  h.of_acts l.acts (fun _ => ⟨l.room.symm ▸ hr, l.settled (h.active w hact).2⟩)
    (fun hs => absurd (hact.symm.trans hs) (by decide))
    fun hn => absurd hact hn

/-- Operations that the room does not show. -/
theorem quiet (h : s.RoomsSound) (l : s.Quiet w t) : t.RoomsSound :=
  h.of_acts l.acts (fun ha => ⟨l.room.symm ▸ (h.active w ha).1, l.settled (h.active w ha).2⟩)
    (fun hs => ⟨l.room.trans (h.suspended w hs).1, l.settled (h.suspended w hs).2⟩) fun hn => l.room.symm ▸ h.noJobs w hn

/-- Operations of a window that is neither ACTIVE nor SUSPENDED, which add no job. -/
theorem elsewhere (h : s.RoomsSound) (ha : s.Acts w t) (hact : (s.win w).life ≠ .active) (hsus : (s.win w).life ≠ .suspended)
    (he : t.engine = s.engine) : t.RoomsSound :=
  h.of_acts ha (fun e => absurd e hact) (fun e => absurd e hsus) fun hn => by
    have := h.noJobs w hn
    simpa only [State.room, he] using this

/-! #### What the invariant says of an ACTIVE window -/

theorem sound (h : s.RoomsSound) (hact : (s.win w).life = .active) : (s.room w).Sound (s.cfg w) := (h.active w hact).1

theorem settled (h : s.RoomsSound) (hact : (s.win w).life = .active) : s.ClaimsSettled w := (h.active w hact).2

/-- The bank of the producer record has a record of the pool. -/
theorem owned_bank (h : s.RoomsSound) (hact : (s.win w).life = .active) {b : BankId} (hb : (s.room w).bank = some b) :
    (s.recordOf w b).isSome = true := by
  refine State.owned_of_not_free fun hf => ?_
  have hp : (s.bank w b).state.isProducer = true := (h.sound hact).state_of_bank hb
  rw [hf] at hp
  exact absurd hp (by decide)

/-- A bank that is found in a state. -/
theorem findBank_some (h : s.RoomsSound) (hact : (s.win w).life = .active) {x : BankState} {b : BankId}
    (hf : s.findBank w x = some b) : (s.room w).state b = x ∧ (s.recordOf w b).isSome = true := by
  have hmem := List.mem_of_find?_eq_some hf
  have hstate := List.find?_some hf
  rw [WindowRec.mem_bankIds] at hmem
  exact ⟨of_decide_eq_true hstate, (h.pool.owned w b).mpr ⟨by simp [hact], hmem⟩⟩

/-- Where no bank is found in a state other than FREE, none is in it. -/
theorem findBank_none (h : s.RoomsSound) {x : BankState} (hx : x ≠ .free) (hf : s.findBank w x = none) (b : BankId) :
    (s.room w).state b ≠ x := by
  rintro hb
  have hown := State.owned_of_not_free (s := s) (w := w) (b := b) (hb.trans_ne hx)
  have hmem : b ∈ (s.cfg w).bankIds := (WindowRec.mem_bankIds _ b).mpr ((h.pool.owned w b).mp hown).2
  exact List.find?_eq_none.mp hf b hmem (decide_eq_true hb)

end State.RoomsSound

end Sys2Proof.Machine
end

section
/-! ### Sessions keep the invariant -/

namespace Sys2Proof.Machine

open Sys2Proof

set_option Elab.async false

namespace State.Leads

variable {s t : State} {w : WinId} {r : Room}

/-- A change of the claim records that keeps their banks. -/
theorem modClaims (h : s.Leads w r t) (f : WinCtl → WinCtl) (life : ∀ x, (f x).life = x.life := by exact fun _ => rfl)
    (prod : ∀ x, (f x).prod = x.prod := by exact fun _ => rfl) (order : ∀ x, (f x).order = x.order := by exact fun _ => rfl)
    (bank : ∀ x (p : PortId), (f x).claims[p].bank = x.claims[p].bank)
    (idle : ∀ x (p : PortId), x.claims[p].Settled → (f x).claims[p].Settled) : s.Leads w r (t.modWin w f) where
  acts := h.acts.modWin f life fun x => .inl (by rw [prod])
  room := by
    rw [room_modWin, prod, order]
    simp only [bank]
    exact h.room
  settled hs p := by
    rw [State.claim, State.win_modWin_same]
    exact idle _ p (h.settled hs p)

/-- The first operation of the head job: of its own window alone. -/
theorem startHead (h : s.Leads w r t) (hw : ∀ j ∈ t.engine.jobs.head?, j.window = w) : s.Leads w r t.startHead := by
  unfold State.startHead
  split
  · exact h
  · next j rest hj =>
    obtain rfl : j.window = w := hw j (by simp [hj])
    have hphase : ∀ x, s.Leads j.window r (t.modJobs fun _ => { j with phase := x } :: rest) := fun x =>
      (h.modJobs _ (fun y _ => State.Acts.destsOf_phase hj x y) (State.Acts.destsOf_phase hj x _)).cast (by
        obtain rfl := h.room
        rfl)
    split
    · exact h
    · exact (hphase _).requestOp _
    · exact (hphase _).requestOp _

/-- A job joins the list. -/
theorem appendJob (h : s.Leads w r t) (j : Job) (hw : j.window = w) (ha : j.aborted = false) :
    s.Leads w { r with jobs := r.jobs ++ [j.dest] } (t.appendJob j) := by
  have hjobs : r.jobs = t.engine.destsOf w := by rw [← h.room]; rfl
  unfold State.appendJob
  split
  · next hj =>
    refine (h.modJobs _ (fun x hx => ?_) ?_).startHead (by simpa [State.modJobs] using hw)
    · simp [Engine.destsOf, State.modJobs, hj, hw, hx.symm]
    · simp [hjobs, Engine.destsOf, State.modJobs, hj, hw, ha]
  · refine h.modJobs _ (fun x hx => ?_) ?_
    · simp [Engine.destsOf, State.modJobs, hw, hx.symm]
    · simp [hjobs, Engine.destsOf, State.modJobs, hw, ha]

theorem openSession (h : s.Leads w r t) {b : BankId} (own : (t.recordOf w b).isSome = true) :
    s.Leads w (r.session b .filling (t.armed (t.cfg w).openlim)) (t.openSession w b) :=
  (h.bankState own (fun r => { r with state := .filling, session := r.session + 1, cover := [], poison := false, merged := 0
                                      patterned := false }) .filling fun _ => .inr (.inl rfl)).modProd
    fun r => { r with bank := some b, opendl := t.armed (t.cfg w).openlim }

theorem endSession (h : s.Leads w r t) {b : BankId} (own : (t.recordOf w b).isSome = true) :
    s.Leads w (r.session b .free none) (t.endSession w b) :=
  ((h.bankState own _ .free).modProd _).countDrop

theorem drop (h : s.Leads w r t) {b : BankId} (own : (t.recordOf w b).isSome = true) (k : Option FaultKind) :
    s.Leads w (r.session b .free none) (t.drop w b k) := by
  cases k with
  | none => exact (h.endSession own).releaseEvent _ _
  | some k => exact ((h.endSession own).offer k _ _ _).releaseEvent _ _

theorem queueCommit (h : s.Leads w r t) {b : BankId} (own : (t.recordOf w b).isSome = true) :
    s.Leads w (r.session b .queued none) (t.queueCommit w b) := by
  have hbank := h.bankState own (b := b) (fun r =>
    { r with state := .queued, seq := (t.win w).prod.nextseq, stamp := t.time.stamp
             length := fillLength r.cover, written := r.cover.length, deliveries := 0 }) .queued
  have horder := hbank.modWin (fun x => { x with order := x.order ++ [b] })
  refine (((horder.modProd (ProducerRec.committed t.time.stamp) (b := none) (d := none) (fun _ => rfl) (fun _ => rfl)
    fun _ => .inr rfl).countCommit).releaseEvent _ _).cast ?_
  obtain rfl := h.room
  rfl

theorem trigger (h : s.Leads w r t) {b : BankId} (own : (t.recordOf w b).isSome = true) (hb : r.bank = some b) :
    s.Leads w (r.session b .committing none) (t.trigger w b) :=
  ((h.bankState own _ .committing).cancelOpen).cast (by simp [Room.session, BankState.isProducer, hb])

theorem beginMerge (h : s.Leads w r t) {b : BankId} (own : (t.recordOf w b).isSome = true) (hb : r.bank = some b)
    (hd : r.opendl = none) : s.Leads w (r.session b .merging none) (t.beginMerge w b) :=
  ((h.bankState own _ .merging).appendJob _ rfl rfl).cast (by simp [Room.session, BankState.isProducer, hb, hd])

end State.Leads

/-- The count of missed messages keeps the bank of a claim record. -/
theorem missAt_bank (c : WindowRec) (q : SeqNum) (p : PortId) (k : Claim) : (missAt c q p k).bank = k.bank := by
  unfold missAt
  split <;> rfl

theorem missAt_settled (c : WindowRec) (q : SeqNum) (p : PortId) {k : Claim} (h : k.Settled) : (missAt c q p k).Settled := by
  unfold missAt
  split
  · exact fun hb => { h hb with }
  · exact h

namespace State.RoomsSound

variable {s t : State} {w : WinId}

theorem supersede (h : s.RoomsSound) (hact : (s.win w).life = .active) : s.Leads w (s.room w).superseded (s.supersede w) := by
  unfold State.supersede
  split
  · next hn =>
    refine Leads.refl.cast (Room.ext (funext fun a => ?_) rfl rfl rfl rfl rfl rfl)
    exact (if_neg (h.findBank_none (by decide) hn a)).symm
  · next o ho =>
    obtain ⟨hcur, hown⟩ := h.findBank_some hact ho
    have hmiss := (Leads.refl (s := s) (w := w)).modClaims (fun x =>
        { x with claims := x.claims.mapIdx fun i k => missAt (s.cfg w) (s.bank w o).seq (Fin.ofNat 4 i) k })
      (bank := fun x p => by simp [missAt_bank])
      (idle := fun x p hx => by simpa using missAt_settled _ _ _ hx)
    refine (hmiss.bankState hown (fun r => { r with state := if (s.bank w o).holders = 0 then .free else .held }) _).cast
      (Room.ext (funext fun a => ?_) rfl rfl rfl rfl rfl rfl)
    by_cases hao : a = o
    · subst hao
      simp only [Room.superseded, Function.update_self, hcur, if_true]
      rfl
    · have hne : (s.room w).state a ≠ .current := fun ha => hao ((h.sound hact).oneCurrent a o ha hcur)
      simp [Room.superseded, hao, hne]

end State.RoomsSound

/-- The session of an ACTIVE window of a sound state is in a bank, in one of the producer's states. -/
structure State.InSession (s : State) (w : WinId) (b : BankId) (x : BankState) : Prop where
  sound : s.RoomsSound
  active : (s.win w).life = .active
  bank : (s.room w).bank = some b
  state : (s.room w).state b = x

namespace State.InSession

variable {s t : State} {w : WinId} {b : BankId} {x : BankState}

theorem own (h : s.InSession w b x) : (s.recordOf w b).isSome = true := h.sound.owned_bank h.active h.bank

theorem room_sound (h : s.InSession w b x) : (s.room w).Sound (s.cfg w) := h.sound.sound h.active

theorem jobs_nil (h : s.InSession w b x) (hx : x ≠ .merging) : (s.room w).jobs = [] :=
  h.room_sound.jobs_nil fun a ha => by
    obtain rfl : b = a := Option.some.inj (h.bank.symm.trans ha)
    exact h.state ▸ hx

theorem opendl_none (h : s.InSession w b x) (hx : x ≠ .filling) : (s.room w).opendl = none := by
  by_contra hne
  obtain ⟨a, ha, hf⟩ := h.room_sound.deadline hne
  obtain rfl : b = a := Option.some.inj (h.bank.symm.trans ha)
  exact hx (h.state.symm.trans hf)

theorem quiet (h : s.InSession w b x) (q : s.Quiet w t) : t.InSession w b x :=
  ⟨h.sound.quiet q, (q.acts.life w).trans h.active, by rw [q.room]; exact h.bank, by rw [q.room]; exact h.state⟩

/-- The session's bank goes to a state. -/
theorem session_sound (h : s.InSession w b x) (hjobs : (s.room w).jobs = []) {y : BankState} (hm : y.inMode (s.cfg w).mode = true)
    (hc : y ≠ .current) (hh : y ≠ .held) : ((s.room w).session b y none).Sound (s.cfg w) :=
  h.room_sound.session (.inr (h.room_sound.state_of_bank h.bank)) (fun _ ha => Option.some.inj (ha.symm.trans h.bank)) hjobs hm
    (fun hd => absurd rfl hd) hh fun hcur => absurd hcur hc

/-- The session goes on in another of the producer's states. -/
theorem goes_on (h : s.InSession w b x) (hjobs : (s.room w).jobs = []) {y : BankState} (hm : y.inMode (s.cfg w).mode = true)
    (hy : y.isProducer = true) (l : s.Leads w ((s.room w).session b y none) t) : t.InSession w b y where
  sound := h.sound.leads h.active l (h.session_sound hjobs hm (by rintro rfl; cases hy) (by rintro rfl; cases hy))
  active := (l.acts.life w).trans h.active
  bank := by
    rw [l.room]
    exact if_pos hy
  state := by
    rw [l.room]
    exact Function.update_self ..

theorem drop (h : s.InSession w b x) (hjobs : (s.room w).jobs = []) (k : Option FaultKind) : (s.drop w b k).RoomsSound :=
  h.sound.leads h.active (Leads.refl.drop h.own k) (h.session_sound hjobs rfl (by decide) (by decide))

theorem publish (h : s.InSession w b x) (hjobs : (s.room w).jobs = []) (hm : (s.cfg w).mode = .snapshot) :
    (s.publish w b).RoomsSound := by
  have hsup := h.sound.supersede h.active
  have hprod := h.room_sound.state_of_bank h.bank
  have hstate : (s.room w).superseded.state b = (s.room w).state b := if_neg fun e => by
    rw [e] at hprod
    exact absurd hprod (by decide)
  have hown : ((s.supersede w).recordOf w b).isSome = true := by
    rw [hsup.acts.recordOf]
    exact h.own
  refine h.sound.leads h.active (r := (s.room w).superseded.session b .current none)
    ((((hsup.bankState hown _ .current).modProd (ProducerRec.committed s.time.stamp) (b := none) (d := none) (fun _ => rfl)
      (fun _ => rfl) fun _ => .inr rfl).countCommit).releaseEvent _ _) ?_
  refine (h.room_sound.superseded hm).session (.inr (hstate.symm ▸ hprod)) (fun a ha => ?_) hjobs (by simp [BankState.inMode, hm])
    (fun hd => absurd rfl hd) (by decide) fun _ => Room.superseded_state_ne _
  exact Option.some.inj (ha.symm.trans h.bank)

theorem commitDecision (h : s.InSession w b .committing) : (s.commitDecision w b).RoomsSound := by
  have hjobs := h.jobs_nil (by decide)
  unfold State.commitDecision State.snapshotDecision State.queueDecision
  split
  · next hm =>
    dsimp only
    split
    · exact h.drop hjobs _
    · split
      · exact h.publish hjobs hm
      · split
        · exact h.drop hjobs _
        · exact h.sound.leads h.active (Leads.refl.beginMerge h.own h.bank (h.opendl_none (by decide)))
            (h.session_sound hjobs (by simp [BankState.inMode, hm]) (by decide) (by decide))
  · next hm =>
    split
    · exact h.drop hjobs _
    · exact h.sound.leads h.active (Leads.refl.queueCommit h.own)
        (h.session_sound hjobs (by simp [BankState.inMode, hm]) (by decide) (by decide))

theorem trigger (h : s.InSession w b .filling) : (s.trigger w b).InSession w b .committing :=
  h.goes_on (h.jobs_nil (by decide)) rfl rfl (Leads.refl.trigger h.own h.bank)

theorem writeToFilling (h : s.InSession w b .filling) (p : PortId) (e : Entry) : (s.writeToFilling w p b e).1.RoomsSound := by
  unfold State.writeToFilling State.overlayWrite State.steerWrite State.testTrigger
  split
  · split
    · have hsteered := h.trigger.quiet Leads.refl.writeSteered
      dsimp only
      split
      · exact hsteered.commitDecision
      · exact hsteered.sound
    · exact h.sound
  · have hq : ∀ {u : State}, u.RoomsSound → RoomsSound (((u.writeSteered w).opStarted w).modBank w b fun r =>
        { r with winflight := r.winflight + 1 }) := fun hu =>
      hu.quiet (((Leads.refl.writeSteered).opStarted).quietBank b _)
    refine hq ?_
    split
    · exact h.trigger.sound
    · exact h.sound

end State.InSession

end Sys2Proof.Machine
end

section
/-! ### Claims and dispatches keep the invariant -/

namespace Sys2Proof.Machine

open Sys2Proof

set_option Elab.async false

/-- A claim that ends with no read in flight is settled. -/
theorem Claim.ended_settled {k : Claim} (h : k.reads = 0) : k.ended.Settled := fun _ => ⟨rfl, rfl, h, rfl, rfl⟩

/-- Where claim records are settled, one that is not idle is on a bank. -/
theorem State.ClaimsSettled.exists_claimed {s : State} {w : WinId} (h : s.ClaimsSettled w) {p : PortId}
    (hi : ¬ (s.claim w p).Idle) : ∃ b, (s.room w).claimed p = some b :=
  Option.ne_none_iff_exists'.mp fun hn => hi (h p hn)

/-- The bank that a claim may open on: the CURRENT bank, or the head of the order list (R52, R102). -/
def Room.Offers (r : Room) (m : Mode) (b : BankId) : Prop :=
  match m with
  | .snapshot => r.state b = .current
  | .queue => r.order.head? = some b

/-- A transaction goes to the controller of an ACTIVE window in which the port has a role (R130, R133). -/
theorem State.classify_window {s : State} {p : PortId} {x : Txn} {w : WinId} (h : s.classify p x = .window w) :
    (s.win w).life = .active ∧ hasRole (s.cfg w) p = true := by
  unfold State.classify at h
  split at h
  · exact nomatch h
  · split at h
    · exact nomatch h
    · split at h
      · exact nomatch h
      · split_ifs at h with h1 h2 h3
        obtain rfl := Class.window.inj h
        exact ⟨not_not.mp h2, h3⟩

namespace State.Leads

variable {s t : State} {w : WinId} {r : Room}

theorem claimed (h : s.Leads w r t) (p : PortId) : (t.claim w p).bank = r.claimed p := by
  rw [← h.room]
  rfl

/-- A change of an open claim that keeps its bank. -/
theorem openedClaim (h : s.Leads w r t) {p : PortId} (hp : r.claimed p ≠ none) (f : Claim → Claim)
    (bank : ∀ k, (f k).bank = k.bank := by exact fun _ => rfl) : s.Leads w r (t.modClaim w p f) :=
  h.quietClaim p f bank fun _ hn => absurd ((h.claimed p).symm.trans ((bank _).symm.trans hn)) hp

theorem setClosing (h : s.Leads w r t) {p : PortId} (hp : r.claimed p ≠ none) : s.Leads w r (t.setClosing w p) :=
  h.openedClaim hp _

theorem sendRead (h : s.Leads w r t) {p : PortId} (hp : r.claimed p ≠ none) (parts : List MemReq) (data : List Byte) :
    s.Leads w r (t.sendRead w p parts data).1 :=
  h.opStarted.openedClaim hp _

theorem serveSnapshot (h : s.Leads w r t) {p : PortId} (hp : r.claimed p ≠ none) (b : BankId) (e : Entry) :
    s.Leads w r (t.serveSnapshot w p b e).1 := by
  have hclose : s.Leads w r (if closesSnapshot (t.cfg w) e.txn then t.setClosing w p else t) := by
    split
    · exact h.setClosing hp
    · exact h
  unfold State.serveSnapshot
  dsimp only
  split
  · exact hclose
  · exact hclose.sendRead hp _ _

theorem refuse (h : s.Leads w r t) : s.Leads w r (t.refuse w).1 := h.countRefusal

theorem emptyRead (h : s.Leads w r t) (p : PortId) (e : Entry) : s.Leads w r (t.emptyRead w p e).1 := by
  unfold State.emptyRead
  split
  · exact h
  · split
    · exact h
    · exact h.refuse

theorem noFreeBank (h : s.Leads w r t) : s.Leads w r (t.noFreeBank w).1 := by
  unfold State.noFreeBank
  split
  · exact ((h.win fun x => { x with prod := { x.prod with lastrefused := true } }).countRefusal).offer _ _ _ _
  · exact h
  · exact h

theorem producerRead (h : s.Leads w r t) (p : PortId) (e : Entry) : s.Leads w r (t.producerRead w p e).1 := by
  unfold State.producerRead
  dsimp only
  split
  · exact h
  · exact h.opStarted

end State.Leads

namespace State.RoomsSound

variable {s t : State} {w : WinId}

/-- The producer record of an ACTIVE window names a bank: a session is under way. -/
theorem inSession (h : s.RoomsSound) (hact : (s.win w).life = .active) {b : BankId} (hb : (s.win w).prod.bank = some b) :
    s.InSession w b (s.bank w b).state :=
  ⟨h, hact, hb, rfl⟩

/-- A session opens in the first FREE bank. -/
theorem openSession (h : s.RoomsSound) (hact : (s.win w).life = .active) (hn : (s.win w).prod.bank = none) {b : BankId}
    (hb : s.firstFree w = some b) : (s.openSession w b).InSession w b .filling := by
  obtain ⟨hfree, hown⟩ := h.findBank_some hact hb
  have hsound := h.sound hact
  have hbank : (s.room w).bank = none := hn
  have hlead := (Leads.refl (s := s) (w := w)).openSession hown
  refine ⟨h.leads hact hlead ?_, (hlead.acts.life w).trans hact, ?_, ?_⟩
  · exact hsound.session (.inl hfree) (fun a ha => by simp [hbank] at ha) (hsound.jobs_nil fun a ha => by simp [hbank] at ha) rfl
      (fun _ => rfl) (by decide) (by rintro ⟨⟩)
  · rw [hlead.room]
    rfl
  · rw [hlead.room]
    exact Function.update_self ..

theorem producerWrite (h : s.RoomsSound) (hact : (s.win w).life = .active) (p : PortId) (e : Entry) :
    (s.producerWrite w p e).1.RoomsSound := by
  unfold State.producerWrite
  split
  · next b hb =>
    split
    · next hf => exact (hf ▸ h.inSession hact hb).writeToFilling p e
    · exact h
  · next hn =>
    split
    · next b hb => exact (h.openSession hact hn hb).writeToFilling p e
    · exact h.quiet Leads.refl.noFreeBank

/-! #### Claims -/

/-- The bank that a claim of an ACTIVE window is on has a record of the pool. -/
theorem owned_claimed (h : s.RoomsSound) (hact : (s.win w).life = .active) {p : PortId} {b : BankId}
    (hp : (s.room w).claimed p = some b) : (s.recordOf w b).isSome = true := by
  have hsound := h.sound hact
  refine State.owned_of_not_free fun hf => ?_
  have hfree : (s.room w).state b = .free := hf
  cases hm : (s.cfg w).mode with
  | snapshot =>
    have := hsound.image hm p b hp
    simp [hfree] at this
  | queue =>
    have := (hsound.queued b).mp (List.mem_of_head? (hsound.head hm p b hp))
    simp [hfree] at this

theorem leads_releaseSnapshot (h : s.RoomsSound) (hact : (s.win w).life = .active) {p : PortId} {b : BankId}
    (hp : (s.room w).claimed p = some b) (hr : (s.claim w p).reads = 0) :
    s.Leads w ((s.room w).left p b) (s.releaseSnapshot w p) := by
  have hbank := (Leads.refl (s := s) (w := w)).bank (h.owned_claimed hact hp) (BankRec.unclaimed p) fun _ => .inl rfl
  have hclaim : (s.claim w p).bank = some b := hp
  unfold State.releaseSnapshot
  simp only [hclaim]
  exact (hbank.modClaim p Claim.ended rfl fun _ => Claim.ended_settled hr).releaseEvent _ _

theorem releaseSnapshot (h : s.RoomsSound) (hact : (s.win w).life = .active) (hm : (s.cfg w).mode = .snapshot) {p : PortId}
    {b : BankId} (hp : (s.room w).claimed p = some b) (hr : (s.claim w p).reads = 0) : (s.releaseSnapshot w p).RoomsSound :=
  h.leads hact (h.leads_releaseSnapshot hact hp hr) ((h.sound hact).left hp hm)

theorem releaseQueue (h : s.RoomsSound) (hact : (s.win w).life = .active) (hm : (s.cfg w).mode = .queue) {p : PortId}
    {b : BankId} (hp : (s.room w).claimed p = some b) (hr : (s.claim w p).reads = 0) : (s.releaseQueue w p).RoomsSound := by
  have hsound := h.sound hact
  obtain ⟨rest, horder⟩ : ∃ rest, (s.win w).order = b :: rest := by
    have hhead := hsound.head hm p b hp
    cases ho : (s.win w).order with
    | nil => simp [State.room, ho] at hhead
    | cons a rest => exact ⟨rest, by simpa [State.room, ho] using hhead⟩
  have hown := h.owned_claimed hact hp
  have hlead : s.Leads w ((s.room w).delivered p b) ((s.dequeue w).modClaim w p Claim.ended) := by
    have hwin := (Leads.refl (s := s) (w := w)).modWin fun x => { x with order := rest }
    have hdeq := (hwin.bankState (by rwa [State.modWin_recordOf]) (fun r => { r with state := .free }) .free).modClaim p Claim.ended
      (o := none) rfl fun _ => Claim.ended_settled (by simpa [State.claim] using hr)
    simp only [State.dequeue, horder]
    exact hdeq.cast (by simp [Room.delivered, Room.setClaim, State.room, horder])
  have hone : portCount (s.cfg w).consumers = 1 := (h.records w (by simp [hact]) .ports (by decide)).2.2 hm
  have hroom := hsound.delivered hp hone hm
  unfold State.releaseQueue
  dsimp only
  split
  · exact h.leads hact ((hlead.releaseEvent _ _).releaseEvent _ _) hroom
  · exact h.leads hact (hlead.releaseEvent _ _) hroom

theorem releaseClaim (h : s.RoomsSound) (hact : (s.win w).life = .active) {p : PortId} {b : BankId}
    (hp : (s.room w).claimed p = some b) (hr : (s.claim w p).reads = 0) : (s.releaseClaim w p).RoomsSound := by
  unfold State.releaseClaim
  split
  · next hm => exact h.releaseSnapshot hact hm hp hr
  · next hm => exact h.releaseQueue hact hm hp hr

theorem openClaim (h : s.RoomsSound) (hact : (s.win w).life = .active) {p : PortId} (hp : (s.room w).claimed p = none)
    (hc : hasPort (s.cfg w).consumers p = true) {b : BankId} (hb : (s.room w).Offers (s.cfg w).mode b) :
    (s.openClaim w p b).RoomsSound ∧ ((s.openClaim w p b).room w).claimed p = some b := by
  have hsound := h.sound hact
  have hclaim := (Leads.refl (s := s) (w := w)).modClaim p
    (Claim.opened b (s.bank w b).seq (s.armed (s.cfg w).claimlim)) (o := some b) rfl fun _ hn => nomatch hn
  unfold State.openClaim
  dsimp only
  split
  · next hm =>
    rw [hm] at hb
    have hcur : (s.room w).state b ≠ .free := hb.trans_ne (by decide)
    have hown : (s.recordOf w b).isSome = true := State.owned_of_not_free hcur
    have hlead := (hclaim.bank (b := b) (by rwa [State.modClaim_recordOf]) (fun r => { r with holders := addPort r.holders p })
      fun _ => .inl rfl).cast (q := (s.room w).joined p b)
      (Room.ext (Function.update_eq_self b _) rfl rfl rfl rfl rfl rfl)
    refine ⟨h.leads hact hlead (hsound.joined hp hc hb hm), ?_⟩
    rw [hlead.room]
    exact Function.update_self ..
  · next hm =>
    rw [hm] at hb
    have hlead := hclaim.quietBank b (fun r => { r with deliveries := satSucc r.deliveries })
    refine ⟨h.leads hact hlead (hsound.delivers hc hb hm), ?_⟩
    rw [hlead.room]
    exact Function.update_self ..

theorem serve (h : s.RoomsSound) (hact : (s.win w).life = .active) {p : PortId} {b : BankId}
    (hp : (s.room w).claimed p = some b) (e : Entry) : (s.serve w p b e).1.RoomsSound := by
  have hne : (s.room w).claimed p ≠ none := by simp [hp]
  unfold State.serve
  split
  · exact h.quiet (Leads.refl.serveSnapshot hne b e)
  · next hm =>
    unfold State.serveQueue
    dsimp only
    split
    · split
      · split
        · next hr => exact h.releaseQueue hact hm hp hr
        · exact h.quiet (Leads.refl.setClosing hne)
      · exact h
    · refine h.quiet (State.Leads.sendRead ?_ hne _ _)
      split
      · exact Leads.refl.setClosing hne
      · exact Leads.refl

theorem openAndServe (h : s.RoomsSound) (hact : (s.win w).life = .active) {p : PortId} (hp : (s.room w).claimed p = none)
    (hc : hasPort (s.cfg w).consumers p = true) {b : BankId} (hb : (s.room w).Offers (s.cfg w).mode b) (e : Entry) :
    (s.openAndServe w p b e).1.RoomsSound := by
  obtain ⟨hopened, hclaimed⟩ := h.openClaim hact hp hc hb
  exact hopened.serve (((State.Acts.refl.openClaim p b).life w).trans hact) hclaimed e

/-- The CURRENT bank is on offer. -/
theorem currentBank_offers (h : s.RoomsSound) (hact : (s.win w).life = .active) (hm : (s.cfg w).mode = .snapshot) {b : BankId}
    (hb : s.currentBank w = some b) : (s.room w).Offers (s.cfg w).mode b := by
  rw [hm]
  exact (h.findBank_some hact hb).1

theorem restart (h : s.RoomsSound) (hact : (s.win w).life = .active) (hm : (s.cfg w).mode = .snapshot) {p : PortId}
    (hc : hasPort (s.cfg w).consumers p = true) {b : BankId} (hp : (s.room w).claimed p = some b)
    (hr : (s.claim w p).reads = 0) (e : Entry) : (s.restart w p e).1.RoomsSound := by
  have hleft := h.leads_releaseSnapshot hact hp hr
  have hsound := h.releaseSnapshot hact hm hp hr
  have hact' := (hleft.acts.life w).trans hact
  have hm' : ((s.releaseSnapshot w p).cfg w).mode = .snapshot := by rw [hleft.acts.cfg, hm]
  unfold State.restart
  dsimp only
  split
  · next cur hcur =>
    refine hsound.openAndServe hact' ?_ (by rwa [hleft.acts.cfg]) (hsound.currentBank_offers hact' hm' hcur) e
    rw [hleft.room]
    exact Function.update_self ..
  · exact hsound.quiet (Leads.refl.emptyRead p e)

theorem consumerRead (h : s.RoomsSound) (hact : (s.win w).life = .active) {p : PortId}
    (hc : hasPort (s.cfg w).consumers p = true) (e : Entry) : (s.consumerRead w p e).1.RoomsSound := by
  unfold State.consumerRead
  split
  · next hm =>
    unfold State.snapshotConsumerRead
    dsimp only
    split
    · next b hb =>
      have hp : (s.room w).claimed p = some b := hb
      split_ifs with h1 h2 h3 hr
      · exact h.quiet Leads.refl.refuse
      · exact h
      · exact h.restart hact hm hc hp hr e
      · exact h.quiet (Leads.refl.setClosing (by simp [hp]))
      · exact h.serve hact hp e
    · next hb =>
      split
      · exact h.quiet (Leads.refl.emptyRead p e)
      · next cur hcur =>
        split_ifs
        · exact h.quiet Leads.refl.refuse
        · exact h.openAndServe hact hb hc (h.currentBank_offers hact hm hcur) e
  · next hm =>
    unfold State.queueConsumerRead
    dsimp only
    split
    · next b hb =>
      have hp : (s.room w).claimed p = some b := hb
      split_ifs
      · exact h.quiet Leads.refl.refuse
      · exact h
      · exact h.serve hact hp e
    · next hb =>
      split
      · exact h.quiet (Leads.refl.emptyRead p e)
      · next b rest ho =>
        refine h.openAndServe hact hb hc ?_ e
        rw [hm]
        exact congrArg List.head? ho

theorem consumerWrite (h : s.RoomsSound) (hact : (s.win w).life = .active) (p : PortId) (e : Entry) :
    (s.consumerWrite w p e).1.RoomsSound := by
  have hrefuse : (s.refuse w).1.RoomsSound := h.quiet Leads.refl.refuse
  unfold State.consumerWrite
  dsimp only
  split
  · split
    · exact hrefuse
    · next b hb =>
      have hp : (s.room w).claimed p = some b := hb
      split_ifs with h1 h2 hr
      · exact hrefuse
      · exact h
      · exact h.releaseClaim hact hp hr
      · exact h.quiet (Leads.refl.setClosing (by simp [hp]))
  · exact hrefuse

/-! #### Dispatch -/

theorem windowAccess (h : s.RoomsSound) (hact : (s.win w).life = .active) {p : PortId} (hp : hasRole (s.cfg w) p = true)
    (e : Entry) : (s.windowAccess w p e).1.RoomsSound := by
  unfold State.windowAccess
  split
  · split
    · exact h.producerWrite hact p e
    · exact h.quiet (Leads.refl.producerRead p e)
  · next hne =>
    split
    · exact h.consumerWrite hact p e
    · exact h.consumerRead hact (by simpa [hasRole, hne] using hp) e

theorem treat (h : s.RoomsSound) (p : PortId) (e : Entry) : (s.treat p e).1.RoomsSound := by
  unfold State.treat
  split
  · exact h.quiet (w := 0) (Leads.refl.offer _ _ _ _)
  · next w _ => exact h.quiet (w := w) (Leads.refl.offer _ _ _ _)
  · next w _ => exact h.quiet (w := w) (Leads.refl.offer _ _ _ _)
  · exact h.quiet Leads.refl.refuse
  · exact h.quiet (Leads.refl.countRefusal.offer _ _ _ _)
  · next w hw =>
    obtain ⟨hact, hp⟩ := State.classify_window hw
    exact h.windowAccess hact hp e
  · exact h

theorem settle (h : s.RoomsSound) (p : PortId) (x : Treatment) : (s.settle p x).RoomsSound := by
  have hentries : ∀ f, s.Quiet 0 (s.modEntries p f) := fun f => Leads.refl.modEntries p f
  cases x with
  | answered code data => exact h.quiet (hentries _)
  | sent parts data dest trigger => exact h.quiet ((hentries _).handOver _ _)
  | held y => exact h.quiet (hentries _)

end State.RoomsSound

end Sys2Proof.Machine
end

section
/-! ### Drains and lifecycle commands keep the invariant -/

namespace Sys2Proof.Machine

open Sys2Proof

set_option Elab.async false

/-! #### Banks and owners -/

/-- A bank whose records are the same in two states. -/
theorem State.bank_congr {s t : State} {x : WinId} {b : BankId}
    (h : ∀ i : RecId, s.pool[i].owner = some (x, b) ∨ t.pool[i].owner = some (x, b) → t.pool[i] = s.pool[i]) :
    t.bank x b = s.bank x b := by
  have hrec : t.recordOf x b = s.recordOf x b := by
    unfold State.recordOf
    congr 1
    funext i
    refine decide_eq_decide.mpr ⟨fun ht => ?_, fun hs => ?_⟩
    · exact (congrArg BankRec.owner (h i (.inr ht))).symm.trans ht
    · exact (congrArg BankRec.owner (h i (.inl hs))).trans hs
  cases hi : s.recordOf x b with
  | none => simp [State.bank, hrec, hi]
  | some i =>
    rw [State.bank_of_record t (hrec.trans hi), State.bank_of_record s hi]
    exact h i (.inl (s.owner_of_record hi))

/-- A bank each of whose records is FREE and without a holder. -/
theorem State.bank_cleared {t : State} {w : WinId} {b : BankId}
    (h : ∀ i : RecId, t.pool[i].owner = some (w, b) → t.pool[i].state = .free ∧ t.pool[i].holders = 0) :
    (t.bank w b).state = .free ∧ (t.bank w b).holders = 0 := by
  cases hi : t.recordOf w b with
  | none => simp [State.bank, hi, BankRec.unowned, BankRec.initial]
  | some i =>
    rw [State.bank_of_record t hi]
    exact h i (t.owner_of_record hi)

/-- The pool agrees with the windows still when the records of a window return as it becomes OFF (R8). -/
theorem State.poolAgrees_freed {s t : State} {w : WinId} (hs : s.PoolAgrees)
    (hown : ∀ (i : RecId) (b : BankId), s.pool[i].owner = some (w, b) → t.pool[i].owner = none)
    (hrest : ∀ i : RecId, (∀ b, s.pool[i].owner ≠ some (w, b)) → t.pool[i].owner = s.pool[i].owner)
    (hoff : (t.win w).life = .off) (hother : ∀ x, x ≠ w → t.win x = s.win x) (hcfg : ∀ x, t.cfg x = s.cfg x) :
    t.PoolAgrees := by
  have howner : ∀ (i : RecId) (x : WinId) (b : BankId),
      t.pool[i].owner = some (x, b) ↔ x ≠ w ∧ s.pool[i].owner = some (x, b) := by
    intro i x b
    by_cases hi : ∃ c, s.pool[i].owner = some (w, c)
    · obtain ⟨c, hc⟩ := hi
      rw [hown i c hc, hc]
      simpa using fun hx e => absurd e.symm hx
    · rw [hrest i (not_exists.mp hi)]
      refine ⟨fun h => ⟨?_, h⟩, And.right⟩
      rintro rfl
      exact hi ⟨b, h⟩
  rw [State.poolAgrees_iff] at hs ⊢
  obtain ⟨hone, howned⟩ := hs
  refine ⟨fun i j he hne => ?_, fun x b => ?_⟩
  · obtain ⟨⟨x, b⟩, hi⟩ := Option.ne_none_iff_exists'.mp hne
    have hsi := ((howner i x b).mp hi).2
    have hsj := ((howner j x b).mp (he ▸ hi)).2
    exact hone i j (hsi.trans hsj.symm) (by rw [hsi]; exact Option.some_ne_none _)
  · simp only [howner, hcfg, exists_and_left]
    by_cases hx : x = w
    · subst hx
      simp only [hoff, ne_eq, not_true_eq_false, false_and]
    · rw [hother x hx, ← howned]
      exact and_iff_right hx

/-- The jobs of a window are aborted, and no others (R81, R82). -/
theorem Engine.destsOf_abortJob (e : Engine) (w x : WinId) :
    (Engine.mk (abortJob w e.jobs) e.buffer).destsOf x = if x = w then [] else e.destsOf x := by
  have hfilter : ∀ js : List Job, (js.filter fun k => decide (k.window ≠ w)).filter
      (fun j => !j.aborted && decide (j.window = x)) =
        if x = w then [] else js.filter fun j => !j.aborted && decide (j.window = x) := by
    intro js
    rw [List.filter_filter]
    split_ifs with hx
    · exact List.filter_eq_nil_iff.mpr fun j _ => by simp [hx]
    · refine List.filter_congr fun j _ => ?_
      by_cases hj : j.window = x <;> simp [hj, hx]
  unfold Engine.destsOf
  cases e.jobs with
  | nil => simp [abortJob]
  | cons j rest =>
    simp only [abortJob, List.filter_cons, hfilter]
    by_cases hx : x = w
    · by_cases hj : j.window = w <;> simp [hj, hx]
    · have hwx : w ≠ x := Ne.symm hx
      by_cases hj : j.window = w <;> simp [hj, hx, hwx]

theorem Claim.cleared_settled : Claim.cleared.Settled := fun _ => ⟨rfl, rfl, rfl, rfl, rfl⟩

namespace State.RoomsSound

variable {s t : State} {w : WinId}

/-- A change of one window that leaves it clear where it is ACTIVE or SUSPENDED then. -/
theorem of_change (h : s.RoomsSound) (w : WinId) (pool : t.PoolAgrees)
    (records : ∀ x, (t.win x).life ≠ .off → ∀ y, y ≠ .pool → t.PassesCheck x y)
    (cfg : ∀ x, x ≠ w → t.cfg x = s.cfg x)
    (win : ∀ x, x ≠ w → t.win x = s.win x) (bank : ∀ x b, x ≠ w → t.bank x b = s.bank x b)
    (jobs : ∀ x, x ≠ w → t.engine.destsOf x = s.engine.destsOf x) (noJobs : t.engine.destsOf w = [])
    (clear : (t.win w).life = .active ∨ (t.win w).life = .suspended → t.room w = .clear ∧ t.ClaimsSettled w) :
    t.RoomsSound := by
  have hroom : ∀ x, x ≠ w → t.room x = s.room x := fun x hx => by
    simp only [State.room, State.claim, win x hx, bank x _ hx, jobs x hx]
  have hsettled : ∀ x, x ≠ w → s.ClaimsSettled x → t.ClaimsSettled x := fun x hx hs p => by
    rw [State.claim, win x hx]
    exact hs p
  refine ⟨pool, records, fun x hx => ?_, fun x hx => ?_, fun x hx => ?_⟩
  · by_cases hxw : x = w
    · subst hxw
      obtain ⟨hclear, hs⟩ := clear (.inl hx)
      exact ⟨hclear ▸ Room.clear_sound _, hs⟩
    · rw [win x hxw] at hx
      rw [hroom x hxw, cfg x hxw]
      exact ⟨(h.active x hx).1, hsettled x hxw (h.active x hx).2⟩
  · by_cases hxw : x = w
    · subst hxw
      exact clear (.inr hx)
    · rw [win x hxw] at hx
      rw [hroom x hxw]
      exact ⟨(h.suspended x hx).1, hsettled x hxw (h.suspended x hx).2⟩
  · by_cases hxw : x = w
    · subst hxw
      exact noJobs
    · rw [win x hxw] at hx
      rw [hroom x hxw]
      exact h.noJobs x hx

/-- The same for a window that was not OFF, with the window records as they are. -/
theorem of_live_change (h : s.RoomsSound) (w : WinId) (live : (s.win w).life ≠ .off) (pool : t.PoolAgrees)
    (cfg : ∀ x, t.cfg x = s.cfg x) (win : ∀ x, x ≠ w → t.win x = s.win x)
    (bank : ∀ x b, x ≠ w → t.bank x b = s.bank x b)
    (jobs : ∀ x, x ≠ w → t.engine.destsOf x = s.engine.destsOf x) (noJobs : t.engine.destsOf w = [])
    (clear : (t.win w).life = .active ∨ (t.win w).life = .suspended → t.room w = .clear ∧ t.ClaimsSettled w) :
    t.RoomsSound := by
  have hlive : ∀ x, (t.win x).life ≠ .off → (s.win x).life ≠ .off := fun x hx => by
    by_cases hxw : x = w
    · exact hxw ▸ live
    · rwa [win x hxw] at hx
  refine h.of_change w pool (fun x hx y hy => ?_) (fun x _ => cfg x) win bank jobs noJobs clear
  exact State.passesCheck_mono (cfg x) (fun z _ hz => ⟨hlive z hz, cfg z⟩) hy (h.records x (hlive x hx) y hy)

/-! #### Drains -/

/-- The end of a drain (R21). -/
theorem drainComplete (h : s.RoomsSound) (hd : (s.win w).life.draining = true) : (s.drainComplete w).RoomsSound := by
  have hlive : (s.win w).life ≠ .off := fun e => by rw [e] at hd; cases hd
  have hnot : (s.win w).life ≠ .active := Life.not_active_of_draining hd
  have hcfg : ∀ x, (s.drainComplete w).cfg x = s.cfg x := State.cfg_of_base (State.base_drainComplete s w)
  have hwin : ∀ x, x ≠ w → (s.drainComplete w).win x = s.win x := fun x hx => State.drainComplete_win_ne s hx
  have hlife : ((s.drainComplete w).win w).life = (s.win w).life.afterDrain := by rw [State.drainComplete_win_same]
  have hjobs : ∀ x, (s.drainComplete w).engine.destsOf x = s.engine.destsOf x := fun x => by rw [State.drainComplete_engine]
  have hpool : (s.drainComplete w).PoolAgrees := by
    by_cases hret : (s.win w).life = .retiring
    · refine State.poolAgrees_freed h.pool (fun i b hi => ?_) (fun i hi => ?_) (by rw [hlife, hret]; rfl) hwin hcfg
      · rw [State.drainComplete_pool_same s w hi]
        exact if_pos hret
      · rw [State.drainComplete_pool_other s w hi]
    · refine State.poolAgrees_congr (fun i => ?_) (fun x => ?_) (fun x _ => hcfg x) h.pool
      · by_cases hi : ∃ b, s.pool[i].owner = some (w, b)
        · obtain ⟨b, hb⟩ := hi
          rw [State.drainComplete_pool_same s w hb, hb]
          exact if_neg hret
        · rw [State.drainComplete_pool_other s w (not_exists.mp hi)]
      · by_cases hx : x = w
        · rw [hx, hlife]
          refine iff_of_true ?_ hlive
          cases hl : (s.win w).life <;> simp_all [Life.draining, Life.afterDrain]
        · rw [hwin x hx]
  refine h.of_live_change w hlive hpool hcfg hwin (fun x b hx => ?_) (fun x _ => hjobs x) ((hjobs w).trans (h.noJobs w hnot))
    fun _ => ⟨?_, fun p => ?_⟩
  · refine State.bank_congr fun i hi => State.drainComplete_pool_other s w fun c hc => ?_
    rcases hi with hi | hi
    · rw [hc] at hi
      exact hx (congrArg Prod.fst (Option.some.inj hi)).symm
    · rw [State.drainComplete_pool_same s w hc] at hi
      split_ifs at hi
      exact hx (congrArg Prod.fst (Option.some.inj hi)).symm
  · have hclear : ∀ b, ((s.drainComplete w).bank w b).state = .free ∧ ((s.drainComplete w).bank w b).holders = 0 := fun b => by
      refine State.bank_cleared fun i hi => ?_
      by_cases hc : ∃ c, s.pool[i].owner = some (w, c)
      · obtain ⟨c, hc⟩ := hc
        rw [State.drainComplete_pool_same s w hc]
        exact ⟨rfl, rfl⟩
      · rw [State.drainComplete_pool_other s w (not_exists.mp hc)] at hi
        exact absurd ⟨b, hi⟩ hc
    refine Room.ext (funext fun b => (hclear b).1) (funext fun b => (hclear b).2) ?_ ?_ ?_ (funext fun p => ?_)
      ((hjobs w).trans (h.noJobs w hnot))
    all_goals simp [State.room, Room.clear, State.claim, State.drainComplete_win_same, WinCtl.drained, ProducerRec.cleared,
      Claim.cleared]
  · simpa [State.claim, State.drainComplete_win_same, WinCtl.drained] using Claim.cleared_settled

theorem drainCheck (h : s.RoomsSound) (w : WinId) : (s.drainCheck w).RoomsSound := by
  unfold State.drainCheck
  split
  · next hd => exact h.drainComplete (Bool.and_eq_true_iff.mp hd).1
  · exact h

theorem opDone (h : s.RoomsSound) (w : WinId) : (s.opDone w).RoomsSound := (h.quiet (Leads.refl.opEnded (w := w))).drainCheck w

/-- The entry to a draining state (R19). -/
theorem drainBegun (h : s.RoomsSound) {target : Life} (hact : (s.win w).life = .active) (ht : target.draining = true) :
    (s.drainBegun w target).RoomsSound := by
  have hlive : (s.win w).life ≠ .off := by simp [hact]
  have hlife : ((s.drainBegun w target).win w).life = target := by rw [State.drainBegun_win_same]; rfl
  have hcfg : ∀ x, (s.drainBegun w target).cfg x = s.cfg x := fun x => by simp only [State.cfg, State.drainBegun_link]
  have hwin : ∀ x, x ≠ w → (s.drainBegun w target).win x = s.win x := fun x hx => State.drainBegun_win_ne s target hx
  have hjobs : ∀ x, (s.drainBegun w target).engine.destsOf x = if x = w then [] else s.engine.destsOf x := fun x => by
    rw [← Engine.destsOf_abortJob, Engine.destsOf, State.drainBegun_jobs]
    rfl
  have htarget : target ≠ .off ∧ target ≠ .active ∧ target ≠ .suspended := by
    cases target <;> simp_all [Life.draining]
  refine h.of_live_change w hlive ?_ hcfg hwin (fun x b _ => ?_) (fun x hx => (hjobs x).trans (if_neg hx))
    ((hjobs w).trans (if_pos rfl)) fun hl => ?_
  · refine State.poolAgrees_congr (fun i => by rw [State.drainBegun_pool]) (fun x => ?_) (fun x _ => hcfg x) h.pool
    by_cases hx : x = w
    · rw [hx, hlife]
      exact iff_of_true htarget.1 hlive
    · rw [hwin x hx]
  · exact State.bank_congr fun i _ => by rw [State.drainBegun_pool]
  · rw [hlife] at hl
    exact absurd hl (not_or.mpr htarget.2)

theorem drainEntry (h : s.RoomsSound) {target : Life} (hact : (s.win w).life = .active) (ht : target.draining = true) :
    (s.drainEntry w target).RoomsSound :=
  (h.drainBegun hact ht).drainCheck w

/-- The restart of several ACTIVE windows (R24). -/
theorem restartAll (ws : List WinId) (hnd : ws.Nodup) (h : s.RoomsSound) (hact : ∀ w ∈ ws, (s.win w).life = .active) :
    (ws.foldl (fun s w => s.drainEntry w .restarting) s).RoomsSound := by
  induction ws generalizing s with
  | nil => exact h
  | cons w ws ih =>
    obtain ⟨hw, hnd⟩ := List.nodup_cons.mp hnd
    refine ih hnd (h.drainEntry (hact w List.mem_cons_self) rfl) fun x hx => ?_
    have hxw : x ≠ w := fun e => hw (e ▸ hx)
    rw [State.drainEntry_win_ne s rfl hxw]
    exact hact x (List.mem_cons_of_mem w hx)

/-! #### Lifecycle commands -/

/-- DISABLE of a SUSPENDED window (R22). -/
theorem retire (h : s.RoomsSound) (hs : (s.win w).life = .suspended) :
    ((s.modWin w fun x => { x with life := .off }).freeBanks w).RoomsSound := by
  set t := (s.modWin w fun x => { x with life := .off }).freeBanks w with ht
  have hwin : ∀ x, x ≠ w → t.win x = s.win x := fun x hx => by
    rw [ht, State.freeBanks_win, State.win_modWin_ne s _ hx]
  have hoff : (t.win w).life = .off := by
    rw [ht, State.freeBanks_win, State.win_modWin_same]
  have hfreed : ∀ (i : RecId) (b : BankId), s.pool[i].owner = some (w, b) → t.pool[i].owner = none := fun i b hi => by
    rw [ht, State.freeBanks_pool, State.modWin_pool, if_pos (BankRec.ownedBy_of_owner hi)]
  have hrest : ∀ i : RecId, (∀ b, s.pool[i].owner ≠ some (w, b)) → t.pool[i] = s.pool[i] := fun i hi => by
    rw [ht, State.freeBanks_pool, State.modWin_pool, BankRec.ownedBy_eq_false hi]
    rfl
  refine h.of_live_change w (by simp [hs])
    (State.poolAgrees_freed h.pool hfreed (fun i hi => congrArg BankRec.owner (hrest i hi)) hoff hwin fun _ => rfl)
    (fun _ => rfl) hwin (fun x b hx => State.bank_congr fun i hi => hrest i fun c hc => ?_) (fun _ _ => rfl)
    (h.noJobs w (by simp [hs])) fun hl => by simp [hoff] at hl
  rcases hi with hi | hi
  · rw [hc] at hi
    exact hx (congrArg Prod.fst (Option.some.inj hi)).symm
  · rw [hfreed i c hc] at hi
    exact nomatch hi

/-- RESUME (R22). -/
theorem resume (h : s.RoomsSound) (hs : (s.win w).life = .suspended) :
    (s.modWin w fun x => { x with life := .active }).RoomsSound := by
  obtain ⟨hclear, hsettled⟩ := h.suspended w hs
  refine h.of_live_change w (by simp [hs]) ?_ (fun _ => rfl) (fun x hx => State.win_modWin_ne s _ hx) (fun _ _ _ => rfl)
    (fun _ _ => rfl) (h.noJobs w (by simp [hs])) fun _ => ⟨?_, fun p => ?_⟩
  · refine State.poolAgrees_congr (s := s) (fun _ => rfl) (fun x => ?_) (fun _ _ => rfl) h.pool
    by_cases hx : x = w
    · simp [hx, hs]
    · rw [State.win_modWin_ne s _ hx]
  · rw [State.room_modWin, ← hclear]
    rfl
  · rw [State.claim, State.win_modWin_same]
    exact hsettled p

/-- STAGE WRITE into an OFF window (R1, R183). -/
theorem stage (h : s.RoomsSound) (hoff : (s.win w).life = .off) (c : WindowRec) : (s.stage w c).RoomsSound := by
  have hcfg : ∀ x, x ≠ w → (s.stage w c).cfg x = s.cfg x := fun x hx => vector_set_get_fin_ne s.link.staged c hx
  have hne : ∀ x, (s.win x).life ≠ .off → x ≠ w := fun x hx e => hx (e ▸ hoff)
  refine h.of_change w (State.poolAgrees_congr (s := s) (fun _ => rfl) (fun _ => .rfl) (fun x hx => hcfg x (hne x hx)) h.pool)
    (fun x hx y hy => ?_) hcfg (fun _ _ => rfl) (fun _ _ _ => rfl) (fun _ _ => rfl) (h.noJobs w (by simp [hoff]))
    fun hl => ?_
  · exact State.passesCheck_mono (hcfg x (hne x hx)) (fun z _ hz => ⟨hz, hcfg z (hne z hz)⟩) hy (h.records x hx y hy)
  · rw [State.stage_win, hoff] at hl
    exact absurd hl (by decide)

end State.RoomsSound

end Sys2Proof.Machine
end

section
/-! ### ENABLE keeps the invariant -/

namespace Sys2Proof.Machine

open Sys2Proof

set_option Elab.async false

section
variable {s : State} {w : WinId}

/-- The record of another window passes the checks still when an OFF window that passes validation becomes ACTIVE: disjointness
is symmetric (R16, R17). -/
theorem State.passesCheck_enabled {t : State} (hcfg : ∀ x, t.cfg x = s.cfg x) (hother : ∀ x, x ≠ w → t.win x = s.win x)
    (hv : ∀ y, s.PassesCheck w y) {x : WinId} (hx : x ≠ w) (hlive : (s.win x).life ≠ .off) {y : Reason} (hy : y ≠ .pool)
    (h : s.PassesCheck x y) : t.PassesCheck x y := by
  cases y with
  | pool => exact absurd rfl hy
  | overlapWindow =>
    intro z hz hzlive
    rw [hcfg, hcfg]
    by_cases hzw : z = w
    · rw [hzw, Range.overlaps_comm]
      exact hv .overlapWindow x hx hlive
    · exact h z hz (hother z hzw ▸ hzlive)
  | overlapShadow =>
    obtain ⟨hothers, hown⟩ := h
    obtain ⟨hnew, _⟩ := hv .overlapShadow
    refine ⟨fun z hz hzlive a b ha hb => ?_, by rwa [hcfg]⟩
    rw [hcfg] at ha hb ⊢
    rw [hcfg]
    by_cases hzw : z = w
    · subst hzw
      rw [Range.overlaps_comm]
      exact hnew x hx hlive b a hb ha
    · exact hothers z hz (hother z hzw ▸ hzlive) a b ha hb
  | length | align | bankCount | ports | limits =>
    simp only [State.PassesCheck, hcfg]
    exact h

/-- What ENABLE does to the records, with the window OFF before: its banks are the initial ones, and those of the other windows
stay. -/
theorem State.takeRecords_owner_iff (hp : s.PoolAgrees) (hoff : (s.win w).life = .off) (hb : (s.cfg w).bankCount ≤ 8)
    (hfree : (s.cfg w).bankCount ≤ s.freeRecords.length) (i : RecId) (x : WinId) (b : BankId) :
    (s.takeRecords w).pool[i].owner = some (x, b) ↔
      if x = w then b.val < (s.cfg w).bankCount ∧ s.freeRecords[b.val]? = some i else s.pool[i].owner = some (x, b) := by
  have hnone : ∀ (j : RecId) c, s.pool[j].owner ≠ some (w, c) := fun j c hj =>
    absurd hoff (((s.poolAgrees_iff.mp hp).2 w c).mp ⟨j, hj⟩).1
  split_ifs with hx
  · subst hx
    constructor
    · intro ho
      rcases State.takeRecords_owner hb hfree i with ⟨c, hc, hci, hown⟩ | hsame
      · obtain rfl : c = b := congrArg Prod.snd (Option.some.inj (hown.symm.trans ho))
        exact ⟨hc, hci⟩
      · rw [hsame] at ho
        exact absurd ho (hnone i b)
    · rintro ⟨hlt, hget⟩
      rw [(State.takeRecords_pool hb hfree).1 b i hlt hget]
      rfl
  · rcases State.takeRecords_owner hb hfree i with ⟨c, hc, hci, hown⟩ | hsame
    · have hunowned := (s.mem_freeRecords i).mp (List.mem_of_getElem? hci)
      rw [hown, hunowned]
      simpa using fun e => absurd e.symm hx
    · rw [hsame]

/-- A record that is in no window's hands but the enabled one's. -/
theorem State.takeRecords_same (hb : (s.cfg w).bankCount ≤ 8)
    (hfree : (s.cfg w).bankCount ≤ s.freeRecords.length) {i : RecId} {x : WinId} {b : BankId} (hx : x ≠ w)
    (hi : (s.takeRecords w).pool[i].owner = some (x, b)) : (s.takeRecords w).pool[i] = s.pool[i] := by
  rcases State.takeRecords_owner hb hfree i with ⟨c, _, _, hown⟩ | hsame
  · exact absurd (congrArg Prod.fst (Option.some.inj (hown.symm.trans hi))).symm hx
  · exact hsame

theorem State.RoomsSound.enableWindow (h : s.RoomsSound) (hoff : (s.win w).life = .off) (hv : s.invalidReason w = none) :
    (s.enableWindow w).RoomsSound := by
  have hall := (s.invalidReason_eq_none_iff w).mp hv
  have hb := State.bankCount_le (hall .bankCount)
  have hfree := State.bankCount_le_free (hall .pool)
  have howner := State.takeRecords_owner_iff h.pool hoff hb hfree
  set t := s.enableWindow w with ht
  have htp : t.pool = (s.takeRecords w).pool := rfl
  have hcfg : ∀ x, t.cfg x = s.cfg x := State.cfg_of_base (State.base_takeRecords s w)
  have hw : t.win w = { WinCtl.reset with life := .active } := by rw [ht, State.enableWindow, State.win_modWin_same]
  have hwin : ∀ x, x ≠ w → t.win x = s.win x := fun x hx => by
    rw [ht, State.enableWindow, State.win_modWin_ne _ _ hx, State.takeRecords_eq]
    rfl
  have heng : t.engine = s.engine := by
    rw [ht, State.enableWindow, State.modWin_engine, State.takeRecords_eq]
  have hjobs : ∀ x, t.engine.destsOf x = s.engine.destsOf x := fun x => by rw [heng]
  have hnoJobs : t.engine.destsOf w = [] := (hjobs w).trans (h.noJobs w (by simp [hoff]))
  refine h.of_change w ?_ (fun x hx y hy => ?_) (fun x _ => hcfg x) hwin (fun x b hx => ?_) (fun x _ => hjobs x) hnoJobs
    fun _ => ⟨?_, fun p => ?_⟩
  · obtain ⟨hone, howned⟩ := s.poolAgrees_iff.mp h.pool
    rw [State.poolAgrees_iff, htp]
    refine ⟨fun i j he hne => ?_, fun x b => ?_⟩
    · obtain ⟨⟨x, b⟩, hi⟩ := Option.ne_none_iff_exists'.mp hne
      have hsi := (howner i x b).mp hi
      have hsj := (howner j x b).mp (he ▸ hi)
      split_ifs at hsi hsj
      · exact Option.some.inj (hsi.2.symm.trans hsj.2)
      · exact hone i j (hsi.trans hsj.symm) (by rw [hsi]; exact Option.some_ne_none _)
    · simp only [howner, hcfg]
      by_cases hx : x = w
      · subst hx
        simp only [if_true, hw, exists_and_left]
        refine ⟨fun hlt => ⟨by decide, hlt.1⟩, fun hlt => ⟨hlt.2, ?_⟩⟩
        exact ⟨_, List.getElem?_eq_getElem (hlt.2.trans_le hfree)⟩
      · simp only [if_neg hx, hwin x hx, howned]
  · by_cases hxw : x = w
    · subst hxw
      exact State.passesCheck_mono (hcfg x) (fun z hz hlive => ⟨hwin z hz ▸ hlive, hcfg z⟩) hy (hall y)
    · rw [hwin x hxw] at hx
      exact State.passesCheck_enabled hcfg hwin hall hxw hx hy (h.records x hx y hy)
  · refine State.bank_congr fun i hi => State.takeRecords_same hb hfree hx (b := b) ?_
    rcases hi with hi | hi
    · exact (howner i x b).mpr (by rwa [if_neg hx])
    · exact hi
  · have hclear : ∀ b, (t.bank w b).state = .free ∧ (t.bank w b).holders = 0 := fun b => by
      refine State.bank_cleared fun i hi => ?_
      obtain ⟨hlt, hget⟩ : b.val < (s.cfg w).bankCount ∧ s.freeRecords[b.val]? = some i := by
        have := (howner i w b).mp hi
        rwa [if_pos rfl] at this
      rw [htp, (State.takeRecords_pool hb hfree).1 b i hlt hget]
      exact ⟨rfl, rfl⟩
    refine Room.ext (funext fun b => (hclear b).1) (funext fun b => (hclear b).2) ?_ ?_ ?_ (funext fun p => ?_) hnoJobs
    all_goals simp [State.room, Room.clear, State.claim, hw, WinCtl.reset, ProducerRec.reset, Claim.cleared]
  · simpa [State.claim, hw, WinCtl.reset] using Claim.cleared_settled

end

end Sys2Proof.Machine
end

section
/-! ### Every step keeps the invariant of the exchange -/

namespace Sys2Proof.Machine

open Sys2Proof

set_option Elab.async false

namespace State.Leads

variable {s t : State} {w : WinId} {r : Room}

theorem writeError (h : s.Leads w r t) (e : Entry) : s.Leads w r (t.writeError w e) := by
  unfold State.writeError
  split
  · exact h.offer _ _ _ _
  · exact h

theorem readError (h : s.Leads w r t) (p : PortId) (e : Entry) : s.Leads w r (t.readError w p e) := by
  unfold State.readError
  split
  · exact h.offer _ _ _ _
  · exact h

theorem writeLanded (h : s.Leads w r t) (b : BankId) : s.Leads w r (t.writeLanded w b) :=
  h.quietBank b fun r => { r with winflight := r.winflight - 1 }

theorem recordWrite (h : s.Leads w r t) (b : BankId) (c : WindowRec) (e : Entry) :
    s.Leads w r (t.modBank w b (BankRec.recordWrite c e)) := by
  refine h.quietBank b _ (fun r => ?_) (fun r => ?_) fun r => ?_
  all_goals
    unfold BankRec.recordWrite
    split
  · exact .inl rfl
  · exact .inr (.inr ⟨_, rfl⟩)
  all_goals rfl

/-- A read's completion lowers READS (R55, R104). -/
theorem readLanded (h : s.Leads w r t) (p : PortId) : s.Leads w r (t.modClaim w p fun k => { k with reads := k.reads - 1 }) :=
  h.quietClaim p _ (fun _ => rfl) fun hs hb =>
    have hi := hs hb
    ⟨hi.bank, hi.claimdl, by simp [hi.reads], hi.closing, hi.deferred⟩

theorem holdExpiry (h : s.Leads w r t) (p : PortId) (e : Entry) : s.Leads w r (t.holdExpiry p w e) := by
  unfold State.holdExpiry
  dsimp only
  have hcount := ((h.modEntries p (modFirst Entry.isHeld (Entry.answer .refused []))).countRefusal).countExpiry
  split
  · exact (hcount.win fun x => { x with prod := { x.prod with lastrefused := true } }).offer _ _ _ _
  · exact hcount.offer _ _ _ _

end State.Leads

/-! #### The engine takes no part in a deadline -/

theorem State.engine_claimDeadlineTaken (s : State) (w : WinId) (p : PortId) : (s.claimDeadlineTaken w p).engine = s.engine := by
  unfold State.claimDeadlineTaken State.claimExpiry State.releaseSnapshot
  dsimp only
  split
  · split
    · split <;> rfl
    · rfl
  · rfl

theorem State.engine_openExpiry (s : State) (w : WinId) : (s.openExpiry w).engine = s.engine := by
  unfold State.openExpiry
  split
  · rfl
  · dsimp only
    split <;> rfl

namespace State.RoomsSound

variable {s t : State} {w : WinId}

/-- The invariant reads the controllers, the pool, the job list and the window records alone. -/
theorem of_same (h : s.RoomsSound) (hw : t.windows = s.windows) (hp : t.pool = s.pool) (he : t.engine = s.engine)
    (hl : t.link.staged = s.link.staged) : t.RoomsSound := by
  have hwin : ∀ x, t.win x = s.win x := fun x => by simp only [State.win, hw]
  have hcfg : ∀ x, t.cfg x = s.cfg x := fun x => by simp only [State.cfg, hl]
  have hbank : ∀ x b, t.bank x b = s.bank x b := fun x b => State.bank_congr fun i _ => by rw [hp]
  have hroom : ∀ x, t.room x = s.room x := fun x => by simp only [State.room, State.claim, hwin, hbank, he]
  have hsettled : ∀ x, s.ClaimsSettled x → t.ClaimsSettled x := fun x hs p => by
    rw [State.claim, hwin]
    exact hs p
  refine ⟨State.poolAgrees_congr (fun i => by rw [hp]) (fun x => by rw [hwin]) (fun x _ => hcfg x) h.pool, fun x hx y hy => ?_,
    fun x hx => ?_, fun x hx => ?_, fun x hx => ?_⟩ <;> rw [hwin] at hx
  · exact State.passesCheck_mono (hcfg x) (fun z _ hz => ⟨hwin z ▸ hz, hcfg z⟩) hy (h.records x hx y hy)
  · rw [hroom, hcfg]
    exact ⟨(h.active x hx).1, hsettled x (h.active x hx).2⟩
  · rw [hroom]
    exact ⟨(h.suspended x hx).1, hsettled x (h.suspended x hx).2⟩
  · rw [hroom]
    exact h.noJobs x hx

/-! #### Deadlines -/

/-- A due deadline belongs to an open claim. -/
theorem claimed_of_due (hs : s.ClaimsSettled w) {p : PortId} (hd : s.isDue (s.claim w p).claimdl = true) :
    ∃ b, (s.room w).claimed p = some b :=
  hs.exists_claimed fun hi => by simp [State.isDue, hi.claimdl] at hd

theorem claimExpiry (h : s.RoomsSound) (hact : (s.win w).life = .active) {p : PortId} {b : BankId}
    (hp : (s.room w).claimed p = some b) (hr : (s.claim w p).reads = 0) : (s.claimExpiry w p).RoomsSound := by
  have hexpired : ∀ {u : State}, u.RoomsSound →
      RoomsSound (((u.modClaim w p fun k => { k with expired := true }).countExpiry w).offer .claimExpired (some w) (some p)
        none) := fun hu =>
    hu.quiet (w := w) (((Leads.refl.quietClaim p (fun k => { k with expired := true }) (fun _ => rfl) fun hs hb =>
      have hi := hs hb
      ⟨hi.bank, hi.claimdl, hi.reads, hi.closing, hi.deferred⟩).countExpiry).offer _ _ _ _)
  unfold State.claimExpiry
  refine hexpired ?_
  split
  · next hm => exact h.releaseSnapshot hact hm hp hr
  · next hm =>
    exact h.leads hact (Leads.refl.modClaim p Claim.ended rfl fun _ => Claim.ended_settled hr) ((h.sound hact).undelivered p hm)

theorem claimDeadlineTaken (h : s.RoomsSound) (hact : (s.win w).life = .active) {p : PortId} {b : BankId}
    (hp : (s.room w).claimed p = some b) : (s.claimDeadlineTaken w p).RoomsSound := by
  unfold State.claimDeadlineTaken
  split
  · next hr => exact h.claimExpiry hact hp hr
  · exact h.quiet (Leads.refl.openedClaim (by simp [hp]) _)

theorem takeClaim (h : s.RoomsSound) (w : WinId) (p : PortId) : (s.takeClaim w p).RoomsSound := by
  unfold State.takeClaim
  split
  · next hd =>
    by_cases hact : (s.win w).life = .active
    · obtain ⟨b, hb⟩ := claimed_of_due (h.settled hact) hd
      exact h.claimDeadlineTaken hact hb
    · by_cases hsus : (s.win w).life = .suspended
      · obtain ⟨hclear, hs⟩ := h.suspended w hsus
        obtain ⟨b, hb⟩ := claimed_of_due hs hd
        rw [hclear] at hb
        exact nomatch hb
      · exact h.elsewhere (State.Acts.refl.claimDeadlineTaken p) hact hsus (State.engine_claimDeadlineTaken s w p)
  · exact h


theorem openExpiry (h : s.RoomsSound) (hact : (s.win w).life = .active) (hd : (s.room w).opendl ≠ none) :
    (s.openExpiry w).RoomsSound := by
  obtain ⟨b, hb, hf⟩ := (h.sound hact).deadline hd
  have hbank : (s.win w).prod.bank = some b := hb
  have hcount : (s.countExpiry w).InSession w b .filling := InSession.quiet ⟨h, hact, hb, hf⟩ Leads.refl.countExpiry
  have hjobs := hcount.jobs_nil (by decide)
  unfold State.openExpiry
  simp only [hbank]
  split
  · exact hcount.sound.leads hcount.active ((Leads.refl.endSession hcount.own).offer _ _ _ _)
      (hcount.session_sound hjobs rfl (by decide) (by decide))
  · refine hcount.sound.leads hcount.active (r := ((s.countExpiry w).room w).session b .expiring none)
      (((Leads.refl.bankState hcount.own (fun r => { r with state := .expiring }) .expiring).cancelOpen).cast ?_)
      (hcount.session_sound hjobs rfl (by decide) (by decide))
    simp [Room.session, BankState.isProducer, hcount.bank]

theorem takeOpen (h : s.RoomsSound) (w : WinId) : (s.takeOpen w).RoomsSound := by
  unfold State.takeOpen
  split
  · next hd =>
    have hne : (s.room w).opendl ≠ none := fun e => by
      rw [show (s.win w).prod.opendl = none from e] at hd
      simp [State.isDue] at hd
    by_cases hact : (s.win w).life = .active
    · exact h.openExpiry hact hne
    · by_cases hsus : (s.win w).life = .suspended
      · rw [(h.suspended w hsus).1] at hne
        exact absurd rfl hne
      · exact h.elsewhere State.Acts.refl.openExpiry hact hsus (State.engine_openExpiry s w)
  · exact h

theorem takeHold (h : s.RoomsSound) (p : PortId) : (s.takeHold p).RoomsSound := by
  unfold State.takeHold
  split
  · exact h
  · split
    · split
      · exact h.quiet (Leads.refl.holdExpiry p _)
      · exact h
    · exact h

theorem takeDeadline (h : s.RoomsSound) (d : Deadline) : (s.takeDeadline d).RoomsSound := by
  cases d with
  | openOf w => exact h.takeOpen w
  | claimOf w p => exact h.takeClaim w p
  | holdOf p => exact h.takeHold p

theorem takeDeadlines (ds : List Deadline) (h : s.RoomsSound) : (ds.foldl State.takeDeadline s).RoomsSound := by
  induction ds generalizing s with
  | nil => exact h
  | cons d ds ih => exact ih (h.takeDeadline d)

theorem increment (h : s.RoomsSound) : s.increment.RoomsSound :=
  (h.of_same (t := { s with time := s.time.tick }) rfl rfl rfl rfl).takeDeadlines _

/-! #### Completions -/

theorem afterWrite (h : s.RoomsSound) (hact : (s.win w).life = .active) (b : BankId) (e : Entry) :
    (s.afterWrite w b e).RoomsSound := by
  have hsession : ∀ {x}, (s.bank w b).state = x → x.isProducer = true → s.InSession w b x := fun {x} hx hp =>
    ⟨h, hact, ((h.sound hact).producer b).mp (by rw [show (s.room w).state b = x from hx]; exact hp), hx⟩
  unfold State.afterWrite State.abandonLate
  dsimp only
  split
  · next hc =>
    split
    · exact (hsession hc rfl).commitDecision
    · exact h
  · next he =>
    split
    · have hs := hsession he rfl
      exact hs.drop (hs.jobs_nil (by decide)) _
    · exact h
  all_goals exact h

theorem claimCheck (h : s.RoomsSound) (hact : (s.win w).life = .active) (p : PortId) : (s.claimCheck w p).RoomsSound := by
  unfold State.claimCheck
  dsimp only
  split_ifs with hr hc hd
  · obtain ⟨b, hb⟩ := (h.settled hact).exists_claimed (p := p) fun hi => by simp [hi.closing] at hc
    exact h.releaseClaim hact hb hr
  · obtain ⟨b, hb⟩ := (h.settled hact).exists_claimed (p := p) fun hi => by simp [hi.deferred] at hd
    exact h.claimExpiry hact hb hr
  · exact h
  · exact h

theorem windowDone (h : s.RoomsSound) (w : WinId) (p : PortId) (e : Entry) : (s.windowDone w p e).RoomsSound := by
  unfold State.windowDone
  split
  · next b _ _ =>
    have hlanded : s.Quiet w (s.writeLanded w b) := Leads.refl.writeLanded b
    unfold State.writeDone
    dsimp only
    split
    · next hact =>
      have hq := ((hlanded.recordWrite b (s.cfg w) e).writeError e).opEnded
      exact (h.quiet hq).afterWrite ((hq.acts.life w).trans hact) b e
    · exact (h.quiet (hlanded.writeError e)).opDone w
  · exact h.opDone w
  · split
    · exact (h.quiet (Leads.refl.readError p e)).opDone w
    · have hread : s.Quiet w _ := (Leads.refl.readLanded p).readError p e
      unfold State.consumerReadDone
      dsimp only
      split
      · next hact =>
        exact (h.quiet hread.opEnded).claimCheck ((hread.opEnded.acts.life w).trans hact) p
      · exact (h.quiet hread).opDone w

/-! #### The merge engine -/

theorem startHead (h : s.RoomsSound) : s.startHead.RoomsSound := by
  cases hj : s.engine.jobs with
  | nil =>
    unfold State.startHead
    rw [hj]
    exact h
  | cons j rest => exact h.quiet (w := j.window) (Leads.refl.startHead (by simp [hj]))

/-- The head job leaves the list. -/
theorem dropHead (h : s.RoomsSound) {j : Job} {rest : List Job} (hj : s.engine.jobs = j :: rest) :
    (s.modJobs fun _ => rest).RoomsSound := by
  have hdests : ∀ x, ((s.modJobs fun _ => rest).engine.destsOf x).Sublist (s.engine.destsOf x) := fun x => by
    simp only [Engine.destsOf, State.modJobs, hj]
    exact ((List.sublist_cons_self j rest).filter _).map _
  refine ⟨⟨h.pool.oneRecord, h.pool.owned⟩, fun x hx y hy => State.passesCheck_mono rfl (fun z _ hz => ⟨hz, rfl⟩) hy
    (h.records x hx y hy), fun x hx => ?_, fun x hx => ?_, fun x hx => ?_⟩
  · obtain ⟨hr, hs⟩ := h.active x hx
    exact ⟨{ hr with
      merging := fun b hb => hr.merging b ((hdests x).subset hb)
      oneJob := (hdests x).length_le.trans hr.oneJob }, hs⟩
  · obtain ⟨hr, hs⟩ := h.suspended x hx
    refine ⟨?_, hs⟩
    rw [← hr]
    refine Room.ext rfl rfl rfl rfl rfl rfl ?_
    have hnil : s.engine.destsOf x = [] := congrArg Room.jobs hr
    exact (List.sublist_nil.mp (hnil ▸ hdests x)).trans hnil.symm
  · have hnil : s.engine.destsOf x = [] := h.noJobs x hx
    exact List.sublist_nil.mp (hnil ▸ hdests x)

/-- The head job, if it is not aborted, is the merge that the session of its window waits for (R69). -/
theorem headSession (h : s.RoomsSound) {j : Job} {rest : List Job} (hj : s.engine.jobs = j :: rest) (ha : j.aborted = false) :
    (s.modJobs fun _ => rest).InSession j.window j.dest .merging ∧ ((s.modJobs fun _ => rest).room j.window).jobs = [] := by
  have hdests : s.engine.destsOf j.window = j.dest :: (s.modJobs fun _ => rest).engine.destsOf j.window := by
    simp [Engine.destsOf, State.modJobs, hj, ha]
  have hact : (s.win j.window).life = .active := by
    by_contra hn
    exact absurd (hdests.symm.trans (h.noJobs _ hn)) (List.cons_ne_nil _ _)
  have hsound := h.sound hact
  have hmerging : (s.room j.window).state j.dest = .merging := hsound.merging j.dest (by
    show j.dest ∈ s.engine.destsOf j.window
    rw [hdests]
    exact List.mem_cons_self)
  have hone : (s.engine.destsOf j.window).length ≤ 1 := hsound.oneJob
  rw [hdests, List.length_cons] at hone
  exact ⟨⟨h.dropHead hj, hact, (hsound.producer j.dest).mp (by rw [hmerging]; rfl), hmerging⟩,
    List.eq_nil_of_length_eq_zero (Nat.le_zero.mp (Nat.le_of_succ_le_succ hone))⟩

theorem mergeFailure {j : Job} (h : s.InSession j.window j.dest .merging) (hjobs : (s.room j.window).jobs = []) :
    (s.mergeFailure j).RoomsSound := by
  have hq : s.Quiet j.window (s.offer .mergeError (some j.window) none j.pending.head?) := Leads.refl.offer _ _ _ _
  exact (h.quiet hq).drop (by rwa [hq.room]) none

theorem mergeSuccess {j : Job} (h : s.InSession j.window j.dest .merging) (hjobs : (s.room j.window).jobs = []) :
    (s.mergeSuccess j).RoomsSound := by
  have hq : s.Quiet j.window
      (s.modBank j.window j.dest fun r => { r with merged := j.filled, patterned := decide (j.source = none) }) :=
    Leads.refl.quietBank j.dest _
  have hm : (s.cfg j.window).mode = .snapshot := by
    have := h.room_sound.modes j.dest
    rw [h.state] at this
    simpa [BankState.inMode] using this
  exact (h.quiet hq).publish (by rwa [hq.room]) (by rwa [hq.acts.cfg])

/-- The head job goes on. -/
theorem replaceHead (h : s.RoomsSound) {j k : Job} {rest : List Job} (hj : s.engine.jobs = j :: rest) (hw : k.window = j.window)
    (hd : k.dest = j.dest) (ha : k.aborted = j.aborted) : (s.modJobs fun _ => k :: rest).RoomsSound := by
  have hdests : ∀ x, (s.modJobs fun _ => k :: rest).engine.destsOf x = s.engine.destsOf x := fun x => by
    simp only [Engine.destsOf, State.modJobs, hj, List.filter_cons, hw, ha]
    split
    · rw [List.map_cons, List.map_cons, hd]
    · rfl
  exact h.quiet (w := j.window) ((Leads.refl.modJobs _ (fun x _ => hdests x) (hdests _)).cast rfl)

theorem granuleFetched (h : s.RoomsSound) {j : Job} {rest : List Job} (hj : s.engine.jobs = j :: rest) (rdata : Burst) :
    (s.granuleFetched j rest rdata).RoomsSound := by
  have hphase : (s.modJobs fun _ => { j with phase := .writing } :: rest).RoomsSound := h.replaceHead hj rfl rfl rfl
  have hbuffer : (State.setBuffer (s.modJobs fun _ => { j with phase := .writing } :: rest) (rdata.setWidth 512)).RoomsSound :=
    hphase.quiet (w := j.window) ⟨State.Acts.refl.setBuffer _, rfl, id⟩
  exact hbuffer.quiet (Leads.refl.requestOp _)

theorem engineCompletion (h : s.RoomsSound) (w : WinId) (ok : Bool) (rdata : Burst) :
    (s.engineCompletion w ok rdata).RoomsSound := by
  unfold State.engineCompletion
  split
  · exact h.opDone w
  · next j rest hj =>
    split_ifs with ha hok
    · exact ((h.dropHead hj).opDone w).startHead
    · obtain ⟨hs, hjobs⟩ := h.headSession hj (Bool.not_eq_true _ ▸ ha)
      exact ((mergeFailure hs hjobs).opDone w).startHead
    · obtain ⟨hs, hjobs⟩ := h.headSession hj (Bool.not_eq_true _ ▸ ha)
      split
      · exact (h.granuleFetched hj rdata).opDone w
      · unfold State.granuleStored
        dsimp only
        split
        · exact ((mergeSuccess (j := { j with pending := j.pending.tail, filled := j.filled + 1 }) hs hjobs).opDone w).startHead
        · have hnext := h.replaceHead (k := { j with pending := j.pending.tail, filled := j.filled + 1 }) hj rfl rfl rfl
          exact hnext.startHead.opDone w
      · exact h.opDone w

theorem route (h : s.RoomsSound) (o : Issue) (ok : Bool) (rdata : Burst) : (s.route o ok rdata).RoomsSound := by
  unfold State.route
  split
  · unfold State.portCompletion
    split
    · exact h
    · have hentries : ∀ p f, (s.modEntries p f).RoomsSound := fun p f => h.quiet (w := 0) (Leads.refl.modEntries p f)
      dsimp only
      split
      · split
        · exact (hentries _ _).windowDone _ _ _
        · exact hentries _ _
      · exact hentries _ _
  · split
    · exact h.engineCompletion _ ok rdata
    · exact h

/-! #### The events -/

theorem request (h : s.RoomsSound) (hr : s.Request t) : t.RoomsSound := by
  cases hr with
  | unchanged => exact h
  | stage w c off => exact h.stage off c
  | enable w off valid => exact h.enableWindow off valid
  | drain w target op active draining =>
    exact (h.drainEntry active draining).of_same (State.recordLongOp_windows _ op [w]) (State.recordLongOp_pool _ op [w])
      (State.recordLongOp_engine _ op [w]) rfl
  | retire w suspended => exact h.retire suspended
  | resume w suspended => exact h.resume suspended
  | restart =>
    have hfold := restartAll s.activeWindows ((List.nodup_finRange 16).filter _) h fun w hw => (s.mem_activeWindows w).mp hw
    exact hfold.of_same (State.recordLongOp_windows _ _ _) (State.recordLongOp_pool _ _ _) (State.recordLongOp_engine _ _ _) rfl
  | clearCounters w => exact h.quiet (Leads.refl.win fun x => { x with commits := 0, drops := 0, refusals := 0, expiries := 0 })
  | _ => exact h.of_same rfl rfl rfl rfl

theorem frameEvent (h : s.RoomsSound) (hf : s.FrameEvent t) : t.RoomsSound := by
  obtain ⟨a, x, o, u, a', x', o', hr⟩ := hf
  have hbefore : (s.withAnswer a x o).RoomsSound := h.of_same rfl rfl rfl rfl
  exact (hbefore.request hr).of_same rfl rfl rfl rfl

/-- Where every window is OFF and every record free the invariant holds: after the fall and the release of RSTn. -/
theorem of_off (hoff : ∀ w, (t.win w).life = .off) (hfree : ∀ i : RecId, t.pool[i].owner = none) (hjobs : t.engine.jobs = []) :
    t.RoomsSound :=
  t.exchangeSound_iff.mp (State.exchangeSound_of_off hoff hfree hjobs)

theorem event (h : s.RoomsSound) (he : s.Event t) : t.RoomsSound := by
  cases he with
  | unchanged => exact h
  | fall => exact of_off (fun w => by simp [State.win, WinCtl.inReset]) (fun i => by simp) rfl
  | release csnLow low =>
    exact of_off (fun w => congrArg WinCtl.life (reset_win w)) (fun i => congrArg BankRec.owner (reset_pool i)) rfl
  | accept p x accepts => exact h.of_same rfl rfl rfl rfl
  | dispatch p e _ => exact (h.treat p e).settle p _
  | respond p e rest front answered x => exact h.of_same rfl rfl rfl rfl
  | grant r room =>
    unfold State.grantTo
    split
    · exact h
    · exact h.of_same rfl rfl rfl rfl
  | complete o ok rdata oldest =>
    have hretired : s.issueRetired.RoomsSound := h.of_same rfl rfl rfl rfl
    exact hretired.route o ok rdata
  | increment => exact h.increment
  | deadline d => exact h.takeDeadline d
  | frame t hf => exact h.frameEvent hf

theorem step (h : s.RoomsSound) (hs : Machine.step s = .next t) : t.RoomsSound := by
  obtain ⟨rest, hev⟩ | rfl | ⟨_, rfl⟩ | rfl := step_event hs
  · have hrest : State.RoomsSound { s with pending := rest } := h.of_same rfl rfl rfl rfl
    exact hrest.event hev
  · exact h.increment
  · exact h.of_same rfl rfl rfl rfl
  · exact h

end State.RoomsSound

/-- Settles O59, window by window: `RoomsSound` is the invariant stated of each window's room. -/
theorem exchangeSoundKept : Obligations.ExchangeSoundKept := fun s t h hs =>
  t.exchangeSound_iff.mpr ((s.exchangeSound_iff.mp h).step hs)

end Sys2Proof.Machine
end

section
/-! ### What a chain of changes to one controller and one bank leaves

The operations of a session change the window's controller and the record of its producer bank, and nothing else, until the fault
unit, a port or the merge engine is told. `Moves` says of a chain of such changes which controller and which record it leaves; a
proof extends it operation by operation. -/

namespace Sys2Proof.Machine

open Sys2Proof

set_option Elab.async false

/-- State t is state s with x for the controller of window w and r for the record of its bank b, and all else as it was. -/
structure State.Moves (s : State) (w : WinId) (b : BankId) (x : WinCtl) (r : BankRec) (t : State) : Prop where
  windows : t.windows = s.windows.set w.val x
  bank : s.ChangesBank t w b r
  record : t.recordOf w b = s.recordOf w b
  rest : { t with windows := s.windows, pool := s.pool } = s

/-- The pool alone says which bank has changed. -/
theorem State.ChangesBank.congr {s t u : State} {w : WinId} {b : BankId} {r : BankRec} (h : s.ChangesBank t w b r)
    (hp : u.pool = t.pool) : s.ChangesBank u w b r := by
  have hb : u.bank w b = t.bank w b := State.bank_congr fun i _ => by rw [hp]
  exact ⟨hb.trans h.bank, fun i hi => by rw [hp]; exact h.others i hi⟩

/-- The controller of a window after a write of it. -/
theorem State.win_of_windows {s t : State} {w : WinId} {x : WinCtl} (h : t.windows = s.windows.set w.val x) : t.win w = x := by
  simp [State.win, h]

/-- The other controllers after a write of one. -/
theorem State.win_of_windows_ne {s t : State} {w y : WinId} {x : WinCtl} (h : t.windows = s.windows.set w.val x) (hy : y ≠ w) :
    t.win y = s.win y := by
  rw [State.win, h]
  exact vector_set_get_fin_ne _ _ hy

theorem State.windows_set_win (s : State) (w : WinId) : s.windows.set w.val (s.win w) = s.windows := by simp [State.win]

namespace State.Moves

variable {s t : State} {w : WinId} {b : BankId} {x : WinCtl} {r : BankRec}

theorem refl : s.Moves w b (s.win w) (s.bank w b) s where
  windows := (s.windows_set_win w).symm
  bank := ⟨rfl, fun _ _ => rfl⟩
  record := rfl
  rest := rfl

/-! #### What stays -/

theorem ports (h : s.Moves w b x r t) : t.ports = s.ports := (congrArg State.ports h.rest :)
theorem mport (h : s.Moves w b x r t) : t.mport = s.mport := (congrArg State.mport h.rest :)
theorem cfg (h : s.Moves w b x r t) (y : WinId) : t.cfg y = s.cfg y :=
  (congrArg (fun u : State => u.cfg y) h.rest :)
theorem win (h : s.Moves w b x r t) : t.win w = x := State.win_of_windows h.windows

/-! #### One more change -/

theorem modWin (h : s.Moves w b x r t) (f : WinCtl → WinCtl) : s.Moves w b (f x) r (t.modWin w f) where
  windows := by rw [State.modWin_windows, h.win, h.windows, Vector.set_set]
  bank := h.bank.congr rfl
  record := h.record
  rest := h.rest

theorem modProd (h : s.Moves w b x r t) (f : ProducerRec → ProducerRec) :
    s.Moves w b { x with prod := f x.prod } r (t.modProd w f) :=
  h.modWin fun x => { x with prod := f x.prod }

theorem modBank (h : s.Moves w b x r t) (own : (s.recordOf w b).isSome = true) (f : BankRec → BankRec) :
    s.Moves w b x { f r with owner := r.owner, pbase := r.pbase } (t.modBank w b f) where
  windows := h.windows
  bank :=
    ⟨by rw [State.bank_modBank_same t f (h.record ▸ own), h.bank.bank],
      fun i hi => (State.pool_modBank_ne t f i (h.record ▸ hi)).trans (h.bank.others i hi)⟩
  record := (State.recordOf_modBank t w b f w b).trans h.record
  rest := h.rest

theorem setBankState (h : s.Moves w b x r t) (own : (s.recordOf w b).isSome = true) (y : BankState) :
    s.Moves w b x { r with state := y } (t.setBankState w b y) :=
  h.modBank own fun r => { r with state := y }

theorem endSession (h : s.Moves w b x r t) (own : (s.recordOf w b).isSome = true) :
    s.Moves w b { x with drops := x.drops + 1, prod := { x.prod with bank := none, opendl := none, lastdrop := true } }
      { r with state := .free } (t.endSession w b) :=
  ((h.setBankState own .free).modProd fun r => { r with bank := none, opendl := none, lastdrop := true }).modWin
    fun x => { x with drops := x.drops + 1 }

theorem openSession (h : s.Moves w b x r t) (own : (s.recordOf w b).isSome = true) :
    s.Moves w b { x with prod := { x.prod with bank := some b, opendl := t.armed (t.cfg w).openlim } }
      { r with
        state := .filling, session := r.session + 1, cover := [], poison := false, merged := 0, patterned := false }
      (t.openSession w b) :=
  (h.modBank own fun r =>
    { r with state := .filling, session := r.session + 1, cover := [], poison := false, merged := 0, patterned := false }).modProd
    fun r => { r with bank := some b, opendl := t.armed (t.cfg w).openlim }

theorem trigger (h : s.Moves w b x r t) (own : (s.recordOf w b).isSome = true) :
    s.Moves w b { x with prod := { x.prod with opendl := none } } { r with state := .committing } (t.trigger w b) :=
  (h.setBankState own .committing).modProd fun r => { r with opendl := none }

theorem testTrigger (h : s.Moves w b x r t) (own : (s.recordOf w b).isSome = true) (q : Txn) :
    s.Moves w b
      { x with prod := { x.prod with opendl := if isTrigger (s.cfg w) q then none else x.prod.opendl } }
      { r with state := if isTrigger (s.cfg w) q then .committing else r.state } (t.testTrigger w b q) := by
  rw [State.testTrigger, h.cfg]
  split
  · exact h.trigger own
  · exact h

theorem writeSteered (h : s.Moves w b x r t) :
    s.Moves w b { x with prod := { x.prod with lastrefused := false } } r (t.writeSteered w) :=
  h.modProd fun r => { r with lastrefused := false }

theorem steerWrite (h : s.Moves w b x r t) (own : (s.recordOf w b).isSome = true) (p : PortId) (e : Entry) :
    s.Moves w b
      { x with
        outstanding := x.outstanding + 1
        prod :=
          { x.prod with
            lastrefused := false, opendl := if isTrigger (s.cfg w) e.txn then none else x.prod.opendl } }
      { r with
        state := if isTrigger (s.cfg w) e.txn then .committing else r.state
        winflight := r.winflight + 1 } (t.steerWrite w p b e).1 :=
  ((h.testTrigger own e.txn).writeSteered.modWin fun x => { x with outstanding := x.outstanding + 1 }).modBank own
    fun r => { r with winflight := r.winflight + 1 }

end State.Moves

/-! #### The banks a controller looks for -/

section
variable {s : State} {w : WinId} {b : BankId}

/-- The lowest bank in a state is the one that is found. -/
theorem State.findBank_of {x : BankState} (hb : b.val < (s.cfg w).bankCount) (hx : (s.bank w b).state = x)
    (hlow : ∀ a, a < b → (s.bank w a).state ≠ x) : s.findBank w x = some b := by
  obtain ⟨l, r, hl⟩ := List.append_of_mem ((WindowRec.mem_bankIds (s.cfg w) b).mpr hb)
  have hsorted := hl ▸ (s.cfg w).bankIds_sorted
  refine List.find?_eq_some_iff_append.mpr ⟨decide_eq_true hx, l, r, hl, fun a ha => ?_⟩
  simp [hlow a ((List.pairwise_append.mp hsorted).2.2 a ha b (List.mem_cons_self ..))]

theorem State.findBank_eq_none {x : BankState} (h : ∀ a : BankId, a.val < (s.cfg w).bankCount → (s.bank w a).state ≠ x) :
    s.findBank w x = none := by
  refine List.find?_eq_none.mpr fun a ha => ?_
  simp [h a ((WindowRec.mem_bankIds _ a).mp ha)]

theorem State.LowestFree.firstFree (h : s.LowestFree w b) : s.firstFree w = some b :=
  State.findBank_of h.inWindow h.free h.lowest

theorem State.NoFree.firstFree (h : s.NoFree w) : s.firstFree w = none := State.findBank_eq_none h

theorem State.IsCurrent.currentBank (h : s.IsCurrent w b) : s.currentBank w = some b :=
  State.findBank_of h.inWindow h.current fun a ha hc => ha.ne (h.only a hc)

theorem State.NoCurrent.currentBank (h : s.NoCurrent w) : s.currentBank w = none :=
  State.findBank_eq_none fun a _ => h a

theorem State.state_of_currentBank (h : s.currentBank w = some b) : (s.bank w b).state = .current := by
  have hfound := List.find?_some h
  exact of_decide_eq_true hfound

end

/-! #### A release event at the ports -/

/-- A release event reaches one port (R135). -/
theorem State.port_releaseEvent (s : State) (w : WinId) (p q : PortId) :
    (s.releaseEvent w p).port q = if q = p then (s.port q).afterRelease w else s.port q := by
  split_ifs with h
  · subst h
    simp [State.releaseEvent, PortUnit.afterRelease, Entry.release, Entry.isHeldBy]
  · exact State.port_modEntries_ne s _ h

end Sys2Proof.Machine
end

section
/-! ### The ends of a session (R36 to R40, R43, R44, R96, R99) -/

namespace Sys2Proof.Machine

open Sys2Proof

set_option Elab.async false

/-! #### Drop, abandonment, decision -/

/-- Settles O31: `endSession` on the controller and the bank, then the offer of the cause and the release event. -/
theorem dropEndsSession : Obligations.DropEndsSession := by
  intro s w b cause own
  have hend := (State.Moves.refl (s := s)).endSession own
  cases cause with
  | none =>
    exact ⟨hend.bank.congr rfl, hend.windows, fun _ h => (Option.some_ne_none _ h.symm).elim, fun _ => rfl,
      fun q => State.port_releaseEvent (s.endSession w b) w _ q,
      congrArg (fun u : State => { u with ports := s.ports, faults := s.faults }) hend.rest⟩
  | some k =>
    refine ⟨hend.bank.congr rfl, hend.windows, fun j h => ?_, fun h => (Option.some_ne_none _ h).elim,
      fun q => State.port_releaseEvent ((s.endSession w b).offer k _ _ none) w _ q,
      congrArg (fun u : State => { u with ports := s.ports, faults := s.faults }) hend.rest⟩
    cases h
    rfl

/-- Settles O38: an abandonment at once, or EXPIRING with writes in flight. -/
theorem openDeadlineTaken : Obligations.OpenDeadlineTaken := by
  refine ⟨fun s w b hr hd hb own => ?_, fun s w hd => ?_⟩
  · have hexec : exec (.openDeadline w) s = .next (s.openExpiry w) := by
      simp [exec, execOpenDeadline, hr, State.takeOpen, State.isDue, hd]
    have hcount := (State.Moves.refl (s := s) (w := w) (b := b)).modWin fun x => { x with expiries := x.expiries + 1 }
    constructor
    · intro hw
      have hend := hcount.endSession own
      refine ⟨_, hexec, ?_⟩
      rw [State.openExpiry, hb]
      simp only [if_pos hw]
      exact ⟨hend.bank.congr rfl, hend.windows, rfl, congrArg (fun u : State => { u with faults := s.faults }) hend.rest⟩
    · intro hw
      have hexp := (hcount.setBankState own .expiring).modProd fun r => { r with opendl := none }
      refine ⟨_, hexec, ?_⟩
      rw [State.openExpiry, hb]
      simp only [if_neg hw]
      exact ⟨hexp.bank, hexp.windows, hexp.rest⟩
  · simp [exec, execOpenDeadline, State.takeOpen, State.isDue, hd]

theorem uncovered_eq_nil_iff (c : WindowRec) (cover : List Nat) :
    uncovered c cover = [] ↔ ∀ g, g < c.granuleCount → g ∈ cover := by
  simp [uncovered]

/-- Settles O29: the branches of `snapshotDecision` and of `queueDecision`. -/
theorem commitDecisionTable : Obligations.CommitDecisionTable := by
  refine fun s w b => ⟨fun hm => ⟨fun hp => ?_, fun hp => ⟨fun hc => ?_, fun g hg hn => ?_⟩⟩, fun hm => ⟨fun hp => ?_, fun hp => ?_⟩⟩
  · simp [State.commitDecision, hm, State.snapshotDecision, hp]
  · have hfull := (uncovered_eq_nil_iff _ _).mpr hc
    simp [State.commitDecision, hm, State.snapshotDecision, hp, hfull]
  · have hpart : uncovered (s.cfg w) (s.bank w b).cover ≠ [] := fun h => hn ((uncovered_eq_nil_iff _ _).mp h g hg)
    exact ⟨fun hpol => by simp [State.commitDecision, hm, State.snapshotDecision, hp, hpart, hpol],
      fun hpol => by simp [State.commitDecision, hm, State.snapshotDecision, hp, hpart, hpol]⟩
  · simp [State.commitDecision, hm, State.queueDecision, hp]
  · simp [State.commitDecision, hm, State.queueDecision, hp]

end Sys2Proof.Machine
end

section
/-! ### Publication and the MERGE decision (R38 to R40, R70 to R75, R122) -/

namespace Sys2Proof.Machine

open Sys2Proof

set_option Elab.async false

section
variable {s : State} {w : WinId} {b o : BankId}

/-- A count stops at 255 (R40, R168). -/
theorem satSucc_eq (x : Byte) : satSucc x = if x = 255 then 255 else x + 1 := by
  by_cases h : x = 255
  · subst h; rfl
  · rw [satSucc, if_neg h, if_neg fun e => h (e.trans rfl)]

/-! #### The former CURRENT bank (R40) -/

theorem State.supersede_of_none (h : s.currentBank w = none) : s.supersede w = s := by
  simp [State.supersede, h]

theorem State.supersede_of_some (h : s.currentBank w = some o) : s.supersede w =
    (s.modWin w fun x =>
      { x with claims := x.claims.mapIdx fun i k => missAt (s.cfg w) (s.bank w o).seq (Fin.ofNat 4 i) k }).setBankState w o
      (if (s.bank w o).holders = 0 then .free else .held) := by
  simp [State.supersede, h]

/-- It is told to the claim records and to the bank, and to nothing else. -/
theorem State.supersede_rest (s : State) (w : WinId) : { s.supersede w with windows := s.windows, pool := s.pool } = s := by
  cases h : s.currentBank w with
  | none => rw [State.supersede_of_none h]
  | some o => rw [State.supersede_of_some h]; rfl

theorem State.supersede_windows (s : State) (w : WinId) : (s.supersede w).windows =
    s.windows.set w.val { s.win w with claims := ((s.supersede w).win w).claims } := by
  cases h : s.currentBank w with
  | none => rw [State.supersede_of_none h]; exact (s.windows_set_win w).symm
  | some o => rw [State.supersede_of_some h]; simp [State.modWin_windows]

/-- MISSED rises where LASTSEQ is another (R40). -/
theorem State.claim_supersede (h : s.currentBank w = some o) (q : PortId) :
    (s.supersede w).claim w q = missAt (s.cfg w) (s.bank w o).seq q (s.claim w q) := by
  rw [State.supersede_of_some h]
  simp [State.claim, Fin.ofNat, Nat.mod_eq_of_lt q.isLt]

/-- Another bank than the former CURRENT one keeps its record. -/
theorem State.bank_supersede (hb : (s.bank w b).state ≠ .current) : (s.supersede w).bank w b = s.bank w b := by
  cases h : s.currentBank w with
  | none => rw [State.supersede_of_none h]
  | some o =>
    have hne : b ≠ o := fun e => hb (e ▸ State.state_of_currentBank h)
    rw [State.supersede_of_some h]
    exact State.bank_modBank_ne _ _ fun e => hne e.2

theorem State.recordOf_supersede (s : State) (w : WinId) (b : BankId) : (s.supersede w).recordOf w b = s.recordOf w b := by
  cases h : s.currentBank w with
  | none => rw [State.supersede_of_none h]
  | some o => rw [State.supersede_of_some h]; exact State.recordOf_modBank _ w o _ w b

/-! #### The publication (R39, R40) -/

/-- After the former CURRENT bank has been superseded, a publication moves the window's controller and the published bank; then
the producer port receives the release event. -/
theorem State.publish_moves (own : (s.recordOf w b).isSome = true) : (s.supersede w).Moves w b
    { (s.supersede w).win w with
      commits := ((s.supersede w).win w).commits + 1
      prod := ProducerRec.committed s.time.stamp ((s.supersede w).win w).prod }
    { (s.supersede w).bank w b with
      state := .current, seq := (s.win w).prod.nextseq, stamp := s.time.stamp, length := (s.cfg w).granuleCount
      written := ((s.supersede w).bank w b).cover.length }
    { s.publish w b with ports := (s.supersede w).ports } :=
  ((State.Moves.refl.modBank (s.recordOf_supersede w b ▸ own) fun r =>
    { r with state := .current, seq := (s.win w).prod.nextseq, stamp := s.time.stamp
             length := (s.cfg w).granuleCount, written := r.cover.length }).modProd
    (ProducerRec.committed s.time.stamp)).modWin fun x => { x with commits := x.commits + 1 }

theorem State.publish_windows (own : (s.recordOf w b).isSome = true) : (s.publish w b).windows =
    s.windows.set w.val
      { s.win w with
        claims := ((s.supersede w).win w).claims
        commits := (s.win w).commits + 1
        prod := ProducerRec.committed s.time.stamp (s.win w).prod } := by
  have hwin : (s.supersede w).win w = { s.win w with claims := ((s.supersede w).win w).claims } :=
    State.win_of_windows (s.supersede_windows w)
  have hmoves := (State.publish_moves own).windows
  rw [hwin, State.supersede_windows, Vector.set_set] at hmoves
  exact hmoves

theorem State.claim_publish (own : (s.recordOf w b).isSome = true) (q : PortId) :
    (s.publish w b).claim w q = (s.supersede w).claim w q := by
  rw [State.claim, State.win_of_windows (State.publish_windows own)]
  rfl

end

/-- Settles O30: `supersede` on the former CURRENT bank and the claims, then `publish_moves`. -/
theorem publication : Obligations.Publication := by
  intro s w b own hcur
  have hmoves := State.publish_moves own
  have hwindows := State.publish_windows own
  have hsup := s.supersede_rest w
  have hports : (s.supersede w).ports = s.ports := (congrArg State.ports hsup :)
  have hwin := State.win_of_windows hwindows
  refine ⟨?_, ?_, fun x hx => ?_, ?_, ?_, fun q => ?_, ?_, fun hn => ⟨fun q => ?_, fun i hi => ?_⟩,
    fun o ho => ⟨?_, fun q => ?_, fun i hi hio => ?_⟩⟩
  · have hbank := hmoves.bank.bank
    rw [State.bank_supersede hcur] at hbank
    exact hbank
  · rw [hwin]; rfl
  · exact State.win_of_windows_ne hwindows hx
  · rw [hwin]
  · rw [hwin]
  · have hport : (s.supersede w).port q = s.port q := by rw [State.port, hports]; rfl
    rw [← hport]
    exact State.port_releaseEvent _ w _ q
  · exact (congrArg (fun u : State => { u with ports := s.ports, windows := s.windows, pool := s.pool }) hmoves.rest).trans
      (congrArg (fun u : State => { u with ports := s.ports }) hsup)
  · rw [State.claim_publish own, State.supersede_of_none hn.currentBank]
  · have hother := hmoves.bank.others i
    rw [State.supersede_of_none hn.currentBank] at hother
    exact hother hi
  · have hne : o ≠ b := fun e => hcur (e ▸ ho.current)
    have hpub : (s.publish w b).bank w o = (s.supersede w).bank w o := State.bank_modBank_ne _ _ fun e => hne e.2
    rw [hpub, State.supersede_of_some ho.currentBank]
    exact State.bank_modBank_same _ _ ho.owned
  · rw [State.claim_publish own, State.claim_supersede ho.currentBank]
    simp only [missAt, satSucc_eq]
  · have hother := hmoves.bank.others i (by rwa [State.recordOf_supersede])
    refine hother.trans ?_
    rw [State.supersede_of_some ho.currentBank]
    exact State.pool_modBank_ne _ _ i hio

/-! #### The MERGE decision (R38, R70 to R75) -/

/-- PBASE of every bank stays across a change of a record (R10). -/
theorem State.pbase_modBank (s : State) (w : WinId) (b : BankId) (f : BankRec → BankRec) (x : WinId) (c : BankId) :
    ((s.modBank w b f).bank x c).pbase = (s.bank x c).pbase := by
  by_cases h : x = w ∧ c = b
  · obtain ⟨rfl, rfl⟩ := h
    by_cases own : (s.recordOf x c).isSome = true
    · rw [State.bank_modBank_same s f own]
    · rw [State.bank_of_no_record own, State.bank_of_no_record (by rwa [State.recordOf_modBank])]
  · rw [State.bank_modBank_ne s f h]

/-- The operation with which a job's granule g starts: a read of its source, or a pattern write to its bank (R72, R73, R75). -/
def State.granuleRequest (s : State) (j : Job) (g : Nat) : MemReq :=
  match j.source with
  | some b => engineReq j.window .read (s.granuleAddr j.window b g) 0
  | none => engineReq j.window .write (s.granuleAddr j.window j.dest g) (patternGranule (s.cfg j.window).fillbyte)

/-- The job with the PHASE of that operation. -/
def Job.started (j : Job) : Job := { j with phase := if j.source = none then .writing else .reading }

theorem State.startHead_cons {s : State} {j : Job} {rest : List Job} {g : Nat} {gs : List Nat}
    (hj : s.engine.jobs = j :: rest) (hg : j.pending = g :: gs) :
    s.startHead = (s.modJobs fun _ => j.started :: rest).requestOp j.window (s.granuleRequest j g) := by
  cases hs : j.source <;> simp [State.startHead, hj, hg, hs, State.granuleRequest, Job.started]

/-- A job that finds the list empty starts at once (R72). -/
theorem State.appendJob_of_empty {s : State} {j : Job} {g : Nat} {gs : List Nat} (hj : s.engine.jobs = [])
    (hg : j.pending = g :: gs) :
    s.appendJob j = (s.modJobs fun _ => [j.started]).requestOp j.window (s.granuleRequest j g) := by
  simp only [State.appendJob, hj]
  exact State.startHead_cons (s := s.modJobs fun _ => [j]) rfl hg

/-- Behind another job it waits (R71). -/
theorem State.appendJob_of_cons {s : State} (hj : s.engine.jobs ≠ []) (j : Job) :
    s.appendJob j = s.modJobs fun js => js ++ [j] := by
  obtain ⟨k, ks, hjobs⟩ := List.exists_cons_of_ne_nil hj
  simp only [State.appendJob, hjobs]

theorem State.granuleRequest_modBank (s : State) (w : WinId) (b : BankId) (f : BankRec → BankRec) (j : Job) (g : Nat) :
    (s.modBank w b f).granuleRequest j g = s.granuleRequest j g := by
  simp only [State.granuleRequest, State.granuleAddr, State.pbase_modBank, State.modBank_cfg]

/-- Settles O32: the bank is MERGING, and the job joins an empty list (`appendJob_of_empty`) or another (`appendJob_of_cons`). -/
theorem mergeAppended : Obligations.MergeAppended := by
  intro s w b src pending own hsrc hpend
  have hsource : s.currentBank w = src := by
    obtain ⟨rfl, hn⟩ | ⟨o, rfl, ho⟩ := hsrc
    · exact hn.currentBank
    · exact ho.currentBank
  have huncovered : uncovered (s.cfg w) (s.bank w b).cover = pending := by
    rw [hpend, uncovered]
    exact List.filter_congr fun g _ => by simp
  obtain ⟨job, hjob⟩ : ∃ job : Job, job = ⟨w, b, src, pending, 0, .waiting, false⟩ := ⟨_, rfl⟩
  have hbegin : s.beginMerge w b = (s.setBankState w b .merging).appendJob job := by
    rw [State.beginMerge, hsource, huncovered, hjob]
  have hmoves := (State.Moves.refl (s := s) (w := w)).setBankState own .merging
  rw [hbegin]
  refine ⟨fun hj => ?_, fun g rest hj hg => ?_⟩
  · rw [State.appendJob_of_cons (s := s.setBankState w b .merging) hj, hjob]
    exact ⟨hmoves.bank.congr rfl, rfl, rfl⟩
  · have hpending : job.pending = g :: rest := by rw [hjob, hg]
    rw [State.appendJob_of_empty (s := s.setBankState w b .merging) hj hpending, State.setBankState,
      State.granuleRequest_modBank, hjob]
    refine ⟨hmoves.bank.congr rfl, rfl, rfl, rfl, ?_, rfl⟩
    cases src with
    | none =>
      simp only [if_true]
      rfl
    | some o =>
      have hread : (0 : GranuleBytes).setWidth 1024 = (0 : Burst) := BitVec.setWidth_zero ..
      simp only [reduceCtorEq, if_false, State.granuleRequest, engineReq, hread]
      rfl

end Sys2Proof.Machine
end

section
/-! ### The producer's dispatches (R28 to R33, R46, R47, R91, R94, R112) -/

namespace Sys2Proof.Machine

open Sys2Proof

set_option Elab.async false

section
variable {s u : State} {p : PortId} {e : Entry} {w : WinId} {b : BankId}

/-! #### What the controller does with a producer write -/

theorem State.producerWrite_closing (hb : (s.win w).prod.bank = some b) (hx : (s.bank w b).state ≠ .filling) :
    s.producerWrite w p e = (s, .held w) := by
  simp [State.producerWrite, hb, hx]

theorem State.producerWrite_filling (hb : (s.win w).prod.bank = some b) (hx : (s.bank w b).state = .filling) :
    s.producerWrite w p e = s.writeToFilling w p b e := by
  simp [State.producerWrite, hb, hx]

theorem State.producerWrite_opens (hb : (s.win w).prod.bank = none) (hf : s.firstFree w = some b) :
    s.producerWrite w p e = (s.openSession w b).writeToFilling w p b e := by
  simp [State.producerWrite, hb, hf]

theorem State.producerWrite_full (hb : (s.win w).prod.bank = none) (hf : s.firstFree w = none) :
    s.producerWrite w p e = s.noFreeBank w := by
  simp [State.producerWrite, hb, hf]

/-- A producer write is given to the controller (R133). -/
theorem exec_producerWrite (h : s.ProducerDispatch p e w) (hk : e.txn.kind = .write) :
    exec (.dispatch p) s = .next ((s.producerWrite w p e).1.settle p (s.producerWrite w p e).2) := by
  rw [State.exec_dispatch h.dispatches, treat_producer h, hk]

/-- A producer read is given to the controller (R133). -/
theorem exec_producerRead (h : s.ProducerDispatch p e w) (hk : e.txn.kind = .read) :
    exec (.dispatch p) s = .next ((s.producerRead w p e).1.settle p (s.producerRead w p e).2) := by
  rw [State.exec_dispatch h.dispatches, treat_producer h, hk]

/-! #### Held writes (R33, R94) -/

theorem exec_held (h : s.ProducerDispatch p e w) (hk : e.txn.kind = .write) (hw : s.producerWrite w p e = (s, .held w)) :
    ∃ t, exec (.dispatch p) s = .next t ∧ s.HoldsEntry t p w ∧ { t with ports := s.ports } = s := by
  refine ⟨_, exec_producerWrite h hk, ?_⟩
  rw [hw]
  exact ⟨holdsEntry_settle rfl rfl, rfl⟩

/-- Settles O13. -/
theorem producerWriteHeld : Obligations.ProducerWriteHeld := by
  refine fun s p e w h hk => ⟨fun b hb hx => ?_, fun hm hb hn hf => ?_⟩
  · refine exec_held h hk (State.producerWrite_closing hb fun hfill => ?_)
    simp [hfill] at hx
  · refine exec_held h hk ?_
    rw [State.producerWrite_full hb hn.firstFree]
    simp [State.noFreeBank, hm, hf]

/-! #### Steered writes (R27 to R31, R89 to R92) -/

/-- A write that goes to memory from a state u that differs from s in the controller and the bank alone. -/
theorem exec_steered {x : WinCtl} {r : BankRec} (h : s.ProducerDispatch p e w) (hk : e.txn.kind = .write)
    (own : (s.recordOf w b).isSome = true) (hu : s.Moves w b x r u) (hw : s.producerWrite w p e = u.steerWrite w p b e) :
    ∃ t, exec (.dispatch p) s = .next t ∧
      s.SendsEntry t p [writePart p w (s.cfg w) b e.serial e.txn] [] (some b) (isTrigger (s.cfg w) e.txn) ∧
      t.windows = s.windows.set w.val
        { x with
          outstanding := x.outstanding + 1
          prod :=
            { x.prod with
              lastrefused := false, opendl := if isTrigger (s.cfg w) e.txn then none else x.prod.opendl } } ∧
      s.ChangesBank t w b
        { r with
          state := if isTrigger (s.cfg w) e.txn then .committing else r.state
          winflight := r.winflight + 1 } ∧
      { t with ports := s.ports, windows := s.windows, pool := s.pool, mport := s.mport } = s := by
  have hsteer := hu.steerWrite own p e
  have hsent : (u.steerWrite w p b e).2 =
      .sent [writePart p w (s.cfg w) b e.serial e.txn] [] (some b) (isTrigger (s.cfg w) e.txn) := by
    rw [State.steerWrite, hu.cfg]
  refine ⟨_, exec_producerWrite h hk, ?_⟩
  rw [hw, hsent]
  exact ⟨sendsEntry_settle hsteer.ports hsteer.mport .., hsteer.windows, hsteer.bank.congr rfl,
    congrArg (fun v : State => { v with ports := s.ports, mport := s.mport }) hsteer.rest⟩

/-- The open deadline of a session that its trigger may open (R31, R42). -/
theorem State.opendl_opened (s : State) (limit : BitVec 16) (trig : Bool) :
    (if trig then none else s.armed limit) =
      if trig = true ∨ limit = 0 then none else some (s.time.stamp + limit.setWidth 32) := by
  cases trig <;> simp [State.armed, State.due]

end

/-- The enables that go to memory are those of the non-overlay bytes (R30, R144). -/
theorem enablesWithoutOverlay_getLsbD (c : WindowRec) (x : Txn) (i : Nat) :
    (enablesWithoutOverlay c x).getLsbD i = (x.wen.getLsbD i && !isOverlayByte c (startOffset c x + i)) := by
  cases hc : c.overlay with
  | false => simp [enablesWithoutOverlay, isOverlayByte, hc]
  | true =>
    by_cases hi : i < 128
    · have hin : i - (Config.overlayBytes - startOffset c x) < 128 := by omega
      have hoff : i < Config.overlayBytes - startOffset c x ↔ startOffset c x + i < Config.overlayBytes := by omega
      simp only [enablesWithoutOverlay, isOverlayByte, hc, if_true, Bool.true_and, BitVec.getLsbD_and,
        BitVec.getLsbD_shiftLeft, BitVec.getLsbD_allOnes, hi, hin, decide_true, Bool.and_true, hoff]
    · simp only [BitVec.getLsbD_of_ge _ i (Nat.le_of_not_lt hi), Bool.false_and]

/-- The window offset of the start address as an address (0.5, R143). -/
theorem ofNat_startOffset {c : WindowRec} {x : Txn} (h : c.base.toNat ≤ x.addr.toNat) :
    BitVec.ofNat 40 (startOffset c x) = x.addr - c.base := by
  have hlt := x.addr.isLt
  apply BitVec.eq_of_toNat_eq
  rw [BitVec.toNat_ofNat, BitVec.toNat_sub, startOffset, firstByte]
  omega

/-- Settles O11: `steerWrite` on the FILLING bank, or on the bank a session has opened in. -/
theorem producerWriteSteered : Obligations.ProducerWriteSteered := by
  refine ⟨fun s p e w b h hk ho => ⟨fun hb hx own => ?_, fun hb hf => ?_⟩, enablesWithoutOverlay_getLsbD,
    fun p w c b n x hbase => ⟨rfl, rfl, rfl, rfl, rfl, ofNat_startOffset hbase, rfl, rfl, rfl, rfl⟩⟩
  · have hw : s.producerWrite w p e = s.steerWrite w p b e := by
      simp [State.producerWrite_filling hb hx, State.writeToFilling, ho]
    have ht := exec_steered h hk own .refl hw
    rw [hx] at ht
    exact ht
  · have hopen := (State.Moves.refl (s := s)).openSession hf.owned
    have hw : s.producerWrite w p e = (s.openSession w b).steerWrite w p b e := by
      simp [State.producerWrite_opens hb hf.firstFree, State.writeToFilling, ho]
    have ht := exec_steered h hk hf.owned hopen hw
    rw [State.opendl_opened] at ht
    exact ht

/-! #### The commit decision and the ports -/

/-- A release event for a port without a hold leaves the ports (R135). -/
theorem State.ports_releaseEvent {s v : State} {w : WinId} {q : PortId} (hv : v.ports = s.ports)
    (h : ∀ e ∈ (s.port q).entries, e.state ≠ .held) : (v.releaseEvent w q).ports = s.ports := by
  have hport : v.port q = s.port q := by rw [State.port, hv]; rfl
  rw [State.releaseEvent_of_no_hold v w q (hport ▸ h), hv]

theorem State.startHead_ports (s : State) : s.startHead.ports = s.ports := by
  unfold State.startHead
  repeat' split
  all_goals rfl

theorem State.appendJob_ports (s : State) (j : Job) : (s.appendJob j).ports = s.ports := by
  unfold State.appendJob
  split
  · exact State.startHead_ports _
  · rfl

section
variable {s u : State} {p : PortId} {e : Entry} {w : WinId} {b : BankId}

theorem State.drop_ports (h : ∀ e ∈ (s.port (s.cfg w).producer).entries, e.state ≠ .held) (cause : Option FaultKind) :
    (s.drop w b cause).ports = s.ports := by
  cases cause <;> exact State.ports_releaseEvent rfl h

theorem State.publish_ports (h : ∀ e ∈ (s.port (s.cfg w).producer).entries, e.state ≠ .held) :
    (s.publish w b).ports = s.ports := by
  have hsup : (s.supersede w).ports = s.ports := (congrArg State.ports (s.supersede_rest w) :)
  exact State.ports_releaseEvent hsup h

/-- A commit decision, of whatever outcome, leaves the ports where the producer port holds nothing. -/
theorem State.commitDecision_ports (h : ∀ e ∈ (s.port (s.cfg w).producer).entries, e.state ≠ .held) :
    (s.commitDecision w b).ports = s.ports := by
  have hcommit : (s.queueCommit w b).ports = s.ports := State.ports_releaseEvent rfl h
  have hmerge : (s.beginMerge w b).ports = s.ports := State.appendJob_ports _ _
  unfold State.commitDecision State.snapshotDecision State.queueDecision
  dsimp only
  repeat' split
  all_goals simp only [State.drop_ports h, State.publish_ports h, hcommit, hmerge]

/-! #### Overlay-only writes (R32) -/

theorem State.overlayWrite_plain {x : Txn} (h : isTrigger (s.cfg w) x = false) :
    s.overlayWrite w b x = (s, .answered .okay []) := by
  simp [State.overlayWrite, h]

theorem State.overlayWrite_trigger {x : Txn} (h : isTrigger (s.cfg w) x = true) :
    s.overlayWrite w b x =
      (if (((s.trigger w b).writeSteered w).bank w b).winflight = 0 then ((s.trigger w b).writeSteered w).commitDecision w b
        else (s.trigger w b).writeSteered w, .answered .okay []) := by
  simp [State.overlayWrite, h]

/-- An overlay-only write that leaves a state u, which differs from s in the controller and the bank alone. -/
theorem exec_overlay {x : WinCtl} {r : BankRec} (h : s.ProducerDispatch p e w) (hk : e.txn.kind = .write)
    (hu : s.Moves w b x r u) (hw : s.producerWrite w p e = (u, .answered .okay [])) :
    ∃ t, exec (.dispatch p) s = .next t ∧ s.AnswersEntry t p .okay [] ∧ t.windows = s.windows.set w.val x ∧
      s.ChangesBank t w b r ∧ { t with ports := s.ports, windows := s.windows, pool := s.pool } = s := by
  refine ⟨_, exec_producerWrite h hk, ?_⟩
  rw [hw]
  exact ⟨answersEntry_settle hu.ports .., hu.windows, hu.bank.congr rfl,
    congrArg (fun v : State => { v with ports := s.ports }) hu.rest⟩

/-- An overlay-only trigger that takes the commit decision at once, in such a state u. -/
theorem exec_overlayDecision {x : WinCtl} {r : BankRec} (h : s.ProducerDispatch p e w) (hk : e.txn.kind = .write)
    (hu : s.Moves w b x r u) (hw : s.producerWrite w p e = (u.commitDecision w b, .answered .okay [])) :
    ∃ u t, u.windows = s.windows.set w.val x ∧ s.ChangesBank u w b r ∧ { u with windows := s.windows, pool := s.pool } = s ∧
      exec (.dispatch p) s = .next t ∧ s.AnswersEntry t p .okay [] ∧ { t with ports := s.ports } = u.commitDecision w b := by
  have hhold : ∀ e ∈ (u.port (u.cfg w).producer).entries, e.state ≠ .held := by
    rw [hu.cfg, h.role, State.port, hu.ports]
    exact h.dispatches.noHold
  have hports : (u.commitDecision w b).ports = s.ports := (State.commitDecision_ports hhold).trans hu.ports
  refine ⟨u, _, hu.windows, hu.bank, hu.rest, exec_producerWrite h hk, ?_⟩
  rw [hw]
  refine ⟨answersEntry_settle hports .., ?_⟩
  rw [← hports]
  rfl

end

/-- Settles O12: an overlay-only write to the FILLING bank, or to the bank a session has opened in, with or without the
trigger byte. -/
theorem overlayWriteAnswered : Obligations.OverlayWriteAnswered := by
  intro s p e w b h hk ho
  have hwrite : ∀ u : State, u.cfg w = s.cfg w → u.writeToFilling w p b e = u.overlayWrite w b e.txn := fun u hc => by
    rw [State.writeToFilling, hc, if_pos ho]
  refine ⟨fun hb hf ht => ?_, fun hb hf ht hw => ?_, fun hb hx own => ⟨fun ht => ?_, fun ht hw => ?_, fun ht hw => ?_⟩⟩
  · have hopen := (State.Moves.refl (s := s)).openSession hf.owned
    refine exec_overlay h hk hopen ?_
    rw [State.producerWrite_opens hb hf.firstFree, hwrite _ (hopen.cfg w), State.overlayWrite_plain (by rwa [hopen.cfg])]
  · have hopen := (State.Moves.refl (s := s)).openSession hf.owned
    have htrig := (hopen.trigger hf.owned).writeSteered
    refine exec_overlayDecision h hk htrig ?_
    rw [State.producerWrite_opens hb hf.firstFree, hwrite _ (hopen.cfg w), State.overlayWrite_trigger (by rwa [hopen.cfg]),
      htrig.bank.bank, if_pos hw]
  · refine ⟨_, exec_producerWrite h hk, ?_⟩
    rw [State.producerWrite_filling hb hx, hwrite s rfl, State.overlayWrite_plain ht]
    exact ⟨answersEntry_settle rfl .., rfl⟩
  · have htrig := ((State.Moves.refl (s := s)).trigger own).writeSteered
    refine exec_overlay h hk htrig ?_
    rw [State.producerWrite_filling hb hx, hwrite s rfl, State.overlayWrite_trigger ht, htrig.bank.bank, if_neg hw]
  · have htrig := ((State.Moves.refl (s := s)).trigger own).writeSteered
    refine exec_overlayDecision h hk htrig ?_
    rw [State.producerWrite_filling hb hx, hwrite s rfl, State.overlayWrite_trigger ht, htrig.bank.bank, if_pos hw]

/-! #### Producer reads (R46, R47, R112) -/

/-- Where the bytes of a SNAPSHOT window come from: the granules of COVER from the producer bank, the others from CURRENT or
PATTERN (R46, R47). -/
theorem State.producerSource_snapshot {s : State} {w : WinId} {o : Nat} (ho : isOverlayByte (s.cfg w) o = false)
    (hm : (s.cfg w).mode = .snapshot) :
    (∀ b, (s.win w).prod.bank = some b → o / 64 ∈ (s.bank w b).cover → s.producerSource w o = .bank b) ∧
    (((s.win w).prod.bank = none ∨ ∃ b, (s.win w).prod.bank = some b ∧ o / 64 ∉ (s.bank w b).cover) →
      (∀ cur, s.IsCurrent w cur → s.producerSource w o = .bank cur) ∧
      (s.NoCurrent w → s.producerSource w o = .pattern)) := by
  refine ⟨fun b hb hc => ?_, fun hnot => ?_⟩
  · simp [State.producerSource, hm, State.snapshotProducerSource, ho, hb, Config.granuleBytes, hc]
  · have hunfold : s.producerSource w o = s.snapshotProducerSource w o := by simp only [State.producerSource, hm]
    rw [hunfold]
    obtain hb | ⟨b, hb, hc⟩ := hnot
    · exact ⟨fun cur hcur => by simp [State.snapshotProducerSource, ho, hb, hcur.currentBank],
        fun hn => by simp [State.snapshotProducerSource, ho, hb, hn.currentBank]⟩
    · exact ⟨fun cur hcur => by simp [State.snapshotProducerSource, ho, hb, Config.granuleBytes, hc, hcur.currentBank],
        fun hn => by simp [State.snapshotProducerSource, ho, hb, Config.granuleBytes, hc, hn.currentBank]⟩

/-- A producer read is answered when it has no memory part, and otherwise sent and counted once (R46, R47, R112). -/
theorem exec_producerReadServed {s : State} {p : PortId} {e : Entry} {w : WinId} (h : s.ProducerDispatch p e w)
    (hk : e.txn.kind = .read) {parts : List MemReq}
    (hp : parts = readParts p w (s.cfg w) e.serial e.txn (s.producerSource w)) :
    ∃ t, exec (.dispatch p) s = .next t ∧
      s.ServesRead t p parts (initialData (s.cfg w) e.txn (s.producerSource w) (s.producerDescriptor w)) ∧
      t.windows = s.windows.set w.val { s.win w with outstanding := (s.win w).outstanding + inFlight parts } ∧
      { t with ports := s.ports, windows := s.windows, mport := s.mport } = s := by
  refine ⟨_, exec_producerRead h hk, ?_⟩
  cases parts with
  | nil =>
    have hread : s.producerRead w p e =
        (s, .answered .okay (initialData (s.cfg w) e.txn (s.producerSource w) (s.producerDescriptor w))) := by
      simp only [State.producerRead, ← hp]
    rw [hread]
    exact ⟨⟨fun _ => ⟨answersEntry_settle rfl .., rfl⟩, fun hne => (hne rfl).elim⟩, (s.windows_set_win w).symm, rfl⟩
  | cons part parts =>
    have hread : s.producerRead w p e = (s.opStarted w, .sent (part :: parts)
        (initialData (s.cfg w) e.txn (s.producerSource w) (s.producerDescriptor w)) none false) := by
      simp only [State.producerRead, ← hp]
    rw [hread]
    exact ⟨⟨fun hnil => (List.cons_ne_nil _ _ hnil).elim,
      fun _ => sendsEntry_settle (s := s) (u := s.opStarted w) rfl rfl ..⟩, rfl, rfl⟩

/-- Settles O15. -/
theorem producerReadServed : Obligations.ProducerReadServed := by
  refine ⟨fun s p e w parts h hk hp => exec_producerReadServed h hk hp,
    fun s w o => ⟨fun ho => ?_, fun ho hm => State.producerSource_snapshot ho hm, fun ho hm => ⟨fun b hb => ?_, fun hb => ?_⟩⟩,
    fun c x src d => ⟨by simp [initialData], fun i hi => ⟨fun hs => ?_, fun hs => ?_⟩⟩⟩
  · cases hm : (s.cfg w).mode <;>
      simp [State.producerSource, hm, State.snapshotProducerSource, State.queueProducerSource, ho]
  · simp [State.producerSource, hm, State.queueProducerSource, ho, hb]
  · simp [State.producerSource, hm, State.queueProducerSource, ho, hb]
  · simp [initialData, hi, hs]
  · simp [initialData, hi, hs]

end Sys2Proof.Machine
end

section
/-! ### Completions in an ACTIVE window (R34 to R36, R44, R47, R55, R64, R104, R109) -/

namespace Sys2Proof.Machine

open Sys2Proof

set_option Elab.async false

/-! #### Producer writes -/

theorem mem_insertGranules {x : Nat} (gs : List Nat) {l : List Nat} : x ∈ insertGranules gs l ↔ x ∈ l ∨ x ∈ gs := by
  unfold insertGranules
  induction gs generalizing l with
  | nil => simp
  | cons g gs ih =>
    rw [List.foldl_cons, ih, mem_insertGranule, List.mem_cons]
    tauto

section
variable {s u : State} {p : PortId} {o : Issue} {e : Entry} {w : WinId} {b : BankId} {ok : Bool} {rdata : Burst}

/-- What the window controller has recorded of a producer write before it looks whether the session ends (R34, R35). -/
def State.writeRecorded (s : State) (w : WinId) (b : BankId) (e : Entry) : State :=
  ((((s.writeLanded w b).modBank w b (BankRec.recordWrite (s.cfg w) e)).writeError w e).opEnded w)

theorem exec_activeWrite (h : s.LastWrite p o e w b) (hact : (s.win w).life = .active) :
    exec (.memoryCompletion ok rdata) s = .next
      (((s.partRecorded p o ok rdata).writeRecorded w b (e.partDone o ok rdata)).afterWrite w b (e.partDone o ok rdata)) := by
  have hdest : (e.partDone o ok rdata).dest = some b := by rw [Entry.partDone_last h.last.last]; exact h.dest
  have hkind : (e.partDone o ok rdata).txn.kind = .write := by rw [Entry.partDone_last h.last.last]; exact h.write
  have hlife : ((s.partRecorded p o ok rdata).win w).life = .active := hact
  rw [exec_lastPart h.last h.window]
  simp only [State.windowDone, hkind, hdest, State.writeDone, if_pos hlife, State.writeRecorded]

/-- The record of the bank after a producer write's completion, with whatever COVER is then. -/
theorem BankRec.recordWrite_eq (c : WindowRec) (e : Entry) (r : BankRec) : r.recordWrite c e =
    { r with
      poison := r.poison || e.errored
      cover := if e.errored then r.cover else insertGranules (granulesCovered c e.txn) r.cover } := by
  cases he : e.errored <;> simp [BankRec.recordWrite, he]

/-- The record and the fault unit apart, the recording changes only the count of the controller. -/
theorem State.writeRecorded_eq (s : State) (w : WinId) (b : BankId) (e : Entry) : s.writeRecorded w b e =
    { ((s.writeLanded w b).modBank w b (BankRec.recordWrite (s.cfg w) e)).opEnded w with
      faults := (s.writeRecorded w b e).faults } := by
  rw [State.writeRecorded, State.writeError_eq]
  rfl

/-- The completion recorded (R34, R35). -/
theorem recordsWrite (h : s.LastWrite p o e w b) (ok : Bool) (rdata : Burst) :
    s.RecordsWrite ((s.partRecorded p o ok rdata).writeRecorded w b (e.partDone o ok rdata)) p o e w b ok rdata := by
  have herr : (e.partDone o ok rdata).errored = !ok := by rw [Entry.partDone_last h.last.last, h.good]; rfl
  have htxn : (e.partDone o ok rdata).txn = e.txn := by rw [Entry.partDone_last h.last.last]
  set q := s.partRecorded p o ok rdata
  have hbank : q.bank w b = s.bank w b := rfl
  have hcfg : q.cfg w = s.cfg w := rfl
  set v := q.writeRecorded w b (e.partDone o ok rdata) with hv
  have hveq : v = { ((q.writeLanded w b).modBank w b (BankRec.recordWrite (q.cfg w) (e.partDone o ok rdata))).opEnded w with
      faults := v.faults } := q.writeRecorded_eq w b _
  have hmoves := ((State.Moves.refl (s := q) (w := w)).modBank h.owned fun r => { r with winflight := r.winflight - 1 }).modBank
    h.owned (BankRec.recordWrite (q.cfg w) (e.partDone o ok rdata))
  have hchange := hmoves.bank.congr (u := v) (by rw [hveq]; rfl)
  rw [BankRec.recordWrite_eq, herr, htxn] at hchange
  refine ⟨State.completesEntry_of h.last ?_ ?_, ⟨_, hchange.bank, hchange.others⟩, fun g => ?_, ?_, ?_, ?_⟩
  · rw [hveq]; rfl
  · rw [hveq]; rfl
  · rw [hchange.bank]
    cases ok <;> simp [hbank, hcfg, mem_insertGranules, granulesCovered]
  · rw [hveq]; rfl
  · rw [hv, State.writeRecorded, State.opEnded_faults, State.writeError_faults, herr, htxn]
    cases ok <;> rfl
  · rw [hveq]; rfl

/-! #### What follows a producer write's completion -/

theorem State.afterWrite_of_open (h : (s.bank w b).state = .filling ∨
    (((s.bank w b).state = .expiring ∨ ((s.bank w b).state = .committing ∧ e.trigger = false)) ∧
      (s.bank w b).winflight ≠ 0)) : s.afterWrite w b e = s := by
  obtain hx | ⟨hx | ⟨hx, ht⟩, hw⟩ := h
  · simp [State.afterWrite, hx]
  · simp [State.afterWrite, hx, hw]
  · simp [State.afterWrite, hx, ht, hw]

theorem State.afterWrite_of_committing (hx : (s.bank w b).state = .committing)
    (h : e.trigger = true ∨ (s.bank w b).winflight = 0) : s.afterWrite w b e = s.commitDecision w b := by
  obtain ht | hw := h
  · simp [State.afterWrite, hx, ht]
  · simp [State.afterWrite, hx, hw]

theorem State.afterWrite_of_expiring (hx : (s.bank w b).state = .expiring) (hw : (s.bank w b).winflight = 0) :
    s.afterWrite w b e = s.drop w b (some .openAbandoned) := by
  simp [State.afterWrite, hx, hw, State.abandonLate]

end

/-- Settles O28: the recording of `recordsWrite`, then `afterWrite` on the bank as recorded. -/
theorem producerWriteCompletes : Obligations.ProducerWriteCompletes := by
  intro s p o e w b ok rdata h hact
  have hrec := recordsWrite h ok rdata
  have hexec := exec_activeWrite (ok := ok) (rdata := rdata) h hact
  have htrigger : (e.partDone o ok rdata).trigger = e.trigger := by rw [Entry.partDone_last h.last.last]
  set u := (s.partRecorded p o ok rdata).writeRecorded w b (e.partDone o ok rdata)
  obtain ⟨cover, hchange⟩ := hrec.bank
  have hstate : (u.bank w b).state = (s.bank w b).state :=
    (congrArg BankRec.state hchange.bank :)
  have hflight : (u.bank w b).winflight = (s.bank w b).winflight - 1 :=
    (congrArg BankRec.winflight hchange.bank :)
  refine ⟨fun hx => ⟨u, ?_, hrec⟩, fun hx ht => ⟨u, hrec, ?_⟩, fun hx hw => ⟨u, hrec, ?_⟩, fun hx hw => ⟨u, hrec, ?_⟩⟩
  · rw [hexec, State.afterWrite_of_open]
    rw [hstate, hflight, htrigger]
    exact hx.imp_right (And.imp_right fun hw => by omega)
  · rw [hexec, State.afterWrite_of_committing (hstate.trans hx) (.inl (htrigger.trans ht))]
  · rw [hexec, State.afterWrite_of_committing (hstate.trans hx) (.inr (by rw [hflight, hw]))]
  · rw [hexec, State.afterWrite_of_expiring (hstate.trans hx) (by rw [hflight, hw])]

/-! #### Reads -/

section
variable {s : State} {p : PortId} {o : Issue} {e : Entry} {w : WinId} {b : BankId} {ok : Bool} {rdata : Burst}

/-- What the window controller has recorded of a read before it looks at the claim, which f has changed (R47, R55, R104). -/
def State.readRecorded (s : State) (w : WinId) (p : PortId) (e : Entry) (f : Claim → Claim) : State :=
  ((s.modClaim w p f).readError w p e).opEnded w

/-- The fault unit apart, the recording changes only the count and the claim record of the controller. -/
theorem State.readRecorded_eq (s : State) (w : WinId) (p : PortId) (e : Entry) (f : Claim → Claim) :
    s.readRecorded w p e f = { (s.modClaim w p f).opEnded w with faults := (s.readRecorded w p e f).faults } := by
  rw [State.readRecorded, State.readError_eq]
  rfl

/-- The completion recorded (R47, R55, R104). -/
theorem recordsRead (h : s.LastPart p o e) (f : Claim → Claim) :
    s.RecordsRead ((s.partRecorded p o ok rdata).readRecorded w p (e.partDone o ok rdata) f) p o e w (f (s.claim w p)) ok
      rdata := by
  have herr : (e.partDone o ok rdata).errored = (e.errored || !ok) := by rw [Entry.partDone_last h.last]
  have htxn : (e.partDone o ok rdata).txn = e.txn := by rw [Entry.partDone_last h.last]
  set q := s.partRecorded p o ok rdata
  set v := q.readRecorded w p (e.partDone o ok rdata) f with hv
  have hveq : v = { (q.modClaim w p f).opEnded w with faults := v.faults } := q.readRecorded_eq w p _ f
  refine ⟨State.completesEntry_of h ?_ ?_, ?_, ?_, ?_⟩
  · rw [hveq]; rfl
  · rw [hveq]; rfl
  · have hwindows : v.windows = ((q.modClaim w p f).opEnded w).windows := by rw [hveq]
    rw [hwindows, State.opEnded, State.modClaim, State.modWin_modWin]
    rfl
  · rw [hv, State.readRecorded, State.opEnded_faults, State.readError_faults, herr, htxn]
    rfl
  · rw [hveq]; rfl

theorem State.RecordsRead.claim {u : State} {k : Claim} (h : s.RecordsRead u p o e w k ok rdata) : u.claim w p = k := by
  rw [State.claim, State.win_of_windows h.window]
  exact Vector.getElem_set_self _

/-- A count that does not end a drain is counted down only (R13). -/
theorem State.opDone_of_active (h : (s.win w).life = .active) : s.opDone w = s.opEnded w := by
  have hlife : ((s.opEnded w).win w).life = .active := by simpa [State.opEnded] using h
  simp [State.opDone, State.drainCheck, hlife, Life.draining]

theorem exec_activeRead (h : s.LastRead p o e w) (hact : (s.win w).life = .active) :
    exec (.memoryCompletion ok rdata) s = .next
      (if (s.cfg w).producer = p then (s.partRecorded p o ok rdata).readRecorded w p (e.partDone o ok rdata) id
       else ((s.partRecorded p o ok rdata).readRecorded w p (e.partDone o ok rdata) fun k =>
        { k with reads := k.reads - 1 }).claimCheck w p) := by
  have hkind : (e.partDone o ok rdata).txn.kind = .read := by rw [Entry.partDone_last h.last.last]; exact h.read
  have hlife : ((s.partRecorded p o ok rdata).win w).life = .active := hact
  have hcfg : (s.partRecorded p o ok rdata).cfg w = s.cfg w := rfl
  rw [exec_lastPart h.last h.window]
  simp only [State.windowDone, hkind, hcfg]
  split_ifs with hp
  · have hread : ((s.partRecorded p o ok rdata).readError w p (e.partDone o ok rdata)).win w =
        (s.partRecorded p o ok rdata).win w := by rw [State.readError_eq]; rfl
    rw [State.producerReadDone, State.opDone_of_active (by rw [hread, hlife]), State.readRecorded, State.modClaim_id]
  · simp only [State.consumerReadDone, if_pos hlife, State.readRecorded]

/-! #### The expiry of a claim (R64, R109) -/

theorem State.claimExpiry_snapshot (hm : (s.cfg w).mode = .snapshot) (hb : (s.claim w p).bank = some b) :
    s.claimExpiry w p =
      (((((s.modBank w b (BankRec.unclaimed p)).modClaim w p Claim.ended).releaseEvent w p).modClaim w p fun k =>
        { k with expired := true }).countExpiry w).offer .claimExpired (some w) (some p) none := by
  simp only [State.claimExpiry, hm, State.releaseSnapshot, hb]

theorem State.claimExpiry_queue (hm : (s.cfg w).mode = .queue) :
    s.claimExpiry w p =
      (((s.modClaim w p Claim.ended).modClaim w p fun k => { k with expired := true }).countExpiry w).offer .claimExpired
        (some w) (some p) none := by
  simp only [State.claimExpiry, hm]

/-- The controller after an expiry. -/
theorem State.expired_windows (s : State) (w : WinId) (p : PortId) :
    (((s.modClaim w p Claim.ended).modClaim w p fun k => { k with expired := true }).countExpiry w).windows =
      s.windows.set w.val
        { s.win w with
          expiries := (s.win w).expiries + 1
          claims := (s.win w).claims.set p.val
            { s.claim w p with
              bank := none, claimdl := none, closing := false, deferred := false, expired := true } } := by
  simp [State.modClaim, State.countExpiry, State.modWin_windows, WinCtl.modClaim, Claim.ended, State.claim]

end

/-- Settles O34: the recording of `recordsRead` and the check on the claim; then the expiry in each mode. -/
theorem readCompletes : Obligations.ReadCompletes := by
  refine ⟨fun s p o e w ok rdata h hact => ⟨fun hp => ?_, fun hp => ?_⟩, fun s w p b hb => ?_⟩
  · exact ⟨_, by rw [exec_activeRead h hact, if_pos hp], recordsRead h.last id⟩
  · have hrec := recordsRead (w := w) (ok := ok) (rdata := rdata) h.last fun k => { k with reads := k.reads - 1 }
    refine ⟨_, hrec, ?_⟩
    rw [exec_activeRead h hact, if_neg hp, State.claimCheck, hrec.claim]
    by_cases hreads : 1 < (s.claim w p).reads
    · have hleft : (s.claim w p).reads - 1 ≠ 0 := by omega
      simp only [if_pos hreads, if_neg hleft]
    · have hnone : (s.claim w p).reads - 1 = 0 := by omega
      simp only [if_neg hreads, if_pos hnone]
  · cases hm : (s.cfg w).mode with
    | snapshot =>
      rw [State.claimExpiry_snapshot hm hb]
      refine ⟨fun _ own => ⟨(State.Moves.refl.modBank own (BankRec.unclaimed p)).bank.congr rfl, fun q => ?_⟩, nofun,
        s.expired_windows w p, rfl, rfl⟩
      exact State.port_releaseEvent ((s.modBank w b (BankRec.unclaimed p)).modClaim w p Claim.ended) w p q
    | queue =>
      rw [State.claimExpiry_queue hm]
      exact ⟨nofun, fun _ => ⟨rfl, rfl⟩, s.expired_windows w p, rfl, rfl⟩

end Sys2Proof.Machine
end

section
/-! ### Releases and expiries of claims (R60, R64, R65, R95, R106, R109, R110) -/

namespace Sys2Proof.Machine

open Sys2Proof

set_option Elab.async false

namespace State.Moves

variable {s t : State} {w : WinId} {b : BankId} {x : WinCtl} {r : BankRec}

theorem modClaim (h : s.Moves w b x r t) (p : PortId) (f : Claim → Claim) :
    s.Moves w b { x with claims := x.claims.set p.val (f x.claims[p]) } r (t.modClaim w p f) :=
  h.modWin fun x => x.modClaim p f

/-- Which record describes which bank stays (R10). -/
theorem owner (h : s.Moves w b x r t) (i : RecId) : t.pool[i].owner = s.pool[i].owner := by
  by_cases hi : s.recordOf w b = some i
  · exact (t.owner_of_record (h.record.trans hi)).trans (s.owner_of_record hi).symm
  · rw [h.bank.others i hi]

theorem recordOf (h : s.Moves w b x r t) (c : BankId) : t.recordOf w c = s.recordOf w c := by
  simp only [State.recordOf, h.owner]

/-- The other banks of the window stay. -/
theorem bank_ne (h : s.Moves w b x r t) {c : BankId} (hc : c ≠ b) : t.bank w c = s.bank w c := by
  cases hrec : s.recordOf w c with
  | none => simp only [State.bank, h.recordOf, hrec]
  | some i =>
    rw [t.bank_of_record ((h.recordOf c).trans hrec), s.bank_of_record hrec]
    exact h.bank.others i fun hb => hc (s.record_inj hrec hb).2

/-- The end of a SNAPSHOT claim, before the release event (R60). -/
theorem endSnapshotClaim (h : s.Moves w b x r t) (own : (s.recordOf w b).isSome = true) (p : PortId) :
    s.Moves w b { x with claims := x.claims.set p.val x.claims[p].ended } (r.unclaimed p)
      ((t.modBank w b (BankRec.unclaimed p)).modClaim w p Claim.ended) :=
  (h.modBank own (BankRec.unclaimed p)).modClaim p Claim.ended

/-- The end of a QUEUE claim by delivery, before the release events (R106). -/
theorem endQueueClaim (h : s.Moves w b x r t) (own : (s.recordOf w b).isSome = true) {rest : List BankId}
    (ho : (t.win w).order = b :: rest) (p : PortId) :
    s.Moves w b { x with order := rest, claims := x.claims.set p.val x.claims[p].ended } { r with state := .free }
      ((t.dequeue w).modClaim w p Claim.ended) := by
  rw [State.dequeue, ho]
  exact ((h.modWin fun x => { x with order := rest }).setBankState own .free).modClaim p Claim.ended

end State.Moves

variable {s : State} {w : WinId} {p : PortId} {b : BankId}

/-! #### Releases (R60, R106) -/

theorem State.releaseClaim_snapshot (hm : (s.cfg w).mode = .snapshot) : s.releaseClaim w p = s.releaseSnapshot w p := by
  simp only [State.releaseClaim, hm]

theorem State.releaseClaim_queue (hm : (s.cfg w).mode = .queue) : s.releaseClaim w p = s.releaseQueue w p := by
  simp only [State.releaseClaim, hm]

theorem State.releaseSnapshot_of_claim (hb : (s.claim w p).bank = some b) : s.releaseSnapshot w p =
    ((s.modBank w b (BankRec.unclaimed p)).modClaim w p Claim.ended).releaseEvent w p := by
  simp only [State.releaseSnapshot, hb]

/-- A release in SNAPSHOT apart from its release event. -/
theorem State.releaseSnapshot_moves (own : (s.recordOf w b).isSome = true) (hb : (s.claim w p).bank = some b) :
    s.Moves w b { s.win w with claims := (s.win w).claims.set p.val (s.claim w p).ended } ((s.bank w b).unclaimed p)
      { s.releaseSnapshot w p with ports := s.ports } := by
  rw [State.releaseSnapshot_of_claim hb]
  exact State.Moves.refl.endSnapshotClaim own p

/-- It tells the port (R60). -/
theorem State.port_releaseSnapshot (s : State) (w : WinId) (p q : PortId) :
    (s.releaseSnapshot w p).port q = if q = p then (s.port q).afterRelease w else s.port q := by
  rw [State.releaseSnapshot]
  split <;> exact State.port_releaseEvent _ w p q

/-- A second release event finds nothing held by the window (R135). -/
theorem PortUnit.afterRelease_idem (u : PortUnit) (w : WinId) : (u.afterRelease w).afterRelease w = u.afterRelease w := by
  simp only [PortUnit.afterRelease, List.map_map, PortUnit.mk.injEq, and_true]
  refine List.map_congr_left fun e _ => ?_
  by_cases h : e.state = .held ∧ e.holdwin = some w
  · simp [h]
  · simp [h]

/-- A delivery tells the port, and the producer port when there is no producer bank (R95, R106). -/
theorem State.port_releaseQueue (s : State) (w : WinId) (p q : PortId) : (s.releaseQueue w p).port q =
    if q = p ∨ (q = (s.cfg w).producer ∧ (s.win w).prod.bank = none) then (s.port q).afterRelease w else s.port q := by
  have hport : ((s.dequeue w).modClaim w p Claim.ended).port q = s.port q := by
    rw [State.modClaim_port, State.dequeue]
    split <;> rfl
  unfold State.releaseQueue
  cases hb : (s.win w).prod.bank with
  | some c => simp [State.port_releaseEvent, hport]
  | none =>
    simp only [State.port_releaseEvent, hport, and_true]
    by_cases hq : q = p
    · simp only [if_pos hq, if_pos (Or.inl hq), PortUnit.afterRelease_idem, ite_self]
    · simp only [hq, if_false, false_or]

/-- A delivery apart from its release events. -/
theorem State.releaseQueue_moves (own : (s.recordOf w b).isSome = true) {rest : List BankId}
    (ho : (s.win w).order = b :: rest) :
    s.Moves w b
      { s.win w with order := rest, claims := (s.win w).claims.set p.val (s.claim w p).ended }
      { s.bank w b with state := .free } { s.releaseQueue w p with ports := s.ports } := by
  have hend := State.Moves.refl.endQueueClaim own ho p
  have heq : { s.releaseQueue w p with ports := s.ports } = (s.dequeue w).modClaim w p Claim.ended := by
    rw [State.releaseQueue, State.dequeue, ho]
    cases (s.win w).prod.bank <;> rfl
  rw [heq]
  exact hend

/-- Settles O24: the end of the claim in each mode, then the release events. -/
theorem releaseEndsClaim : Obligations.ReleaseEndsClaim := by
  refine fun s w p b hb own => ⟨fun hm => ?_, fun rest hm ho => ?_⟩
  · have hend := State.releaseSnapshot_moves own hb
    rw [State.releaseClaim_snapshot hm]
    exact ⟨hend.bank.congr rfl, hend.windows, State.port_releaseSnapshot s w p, hend.rest⟩
  · have hend := State.releaseQueue_moves (p := p) own ho
    rw [State.releaseClaim_queue hm]
    exact ⟨hend.bank.congr rfl, hend.windows, State.port_releaseQueue s w p, hend.rest⟩

/-! #### The claim deadline (R64, R65, R109, R110) -/

/-- Settles O39: an expiry as `readCompletes` gives it for SNAPSHOT, or one that leaves bank and ports in QUEUE; or the deferral. -/
theorem claimDeadlineTaken : Obligations.ClaimDeadlineTaken := by
  refine ⟨fun s w p hr hd => ?_, fun s w p hd => ?_⟩
  · have hexec : exec (.claimDeadline w p) s = .next (s.claimDeadlineTaken w p) := by
      simp [exec, execClaimDeadline, hr, State.takeClaim, State.isDue, hd]
    have hexpires (h : (s.claim w p).reads = 0) : s.claimDeadlineTaken w p = s.claimExpiry w p := by
      rw [State.claimDeadlineTaken, if_pos h]
    rw [hexec]
    refine ⟨fun b hm hb own hn => ⟨_, rfl, ?_⟩, fun hm hn => ⟨_, rfl, ?_⟩, fun hn => ⟨_, rfl, ?_⟩⟩
    · obtain ⟨hsnap, -, hwindows, hfaults, hrest⟩ := readCompletes.2 s w p b hb
      obtain ⟨hbank, hports⟩ := hsnap hm own
      rw [hexpires hn]
      exact ⟨hbank, hwindows, hports, hfaults, hrest⟩
    · rw [hexpires hn, State.claimExpiry_queue hm]
      exact ⟨s.expired_windows w p, rfl, rfl⟩
    · rw [State.claimDeadlineTaken, if_neg hn]
      exact ⟨rfl, rfl⟩
  · simp [exec, execClaimDeadline, State.takeClaim, State.isDue, hd]

end Sys2Proof.Machine
end

section
/-! ### The parts of a window read (R54, R103, R133, R144) -/

namespace Sys2Proof.Machine

open Sys2Proof

set_option Elab.async false

/-! #### Runs of beats -/

/-- The runs of a list of beat sources, the first of which is beat number n: whole runs of one bank, every beat named to a bank in
one of them, in increasing order and apart where the bank is the same (R144). -/
structure RunsOf (n : Nat) (srcs : List Source) (runs : List Run) : Prop where
  sound : ∀ r ∈ runs, 1 ≤ r.count ∧ n ≤ r.first ∧ ∀ k, k < r.count → srcs[r.first - n + k]? = some (.bank r.bank)
  complete : ∀ (i : Nat) (b : BankId), srcs[i]? = some (.bank b) →
    ∃ r ∈ runs, r.bank = b ∧ r.first ≤ n + i ∧ n + i < r.first + r.count
  apart : runs.Pairwise fun r q => r.first + r.count ≤ q.first ∧ (r.first + r.count = q.first → r.bank ≠ q.bank)

namespace RunsOf

variable {n : Nat} {srcs : List Source} {x : Source} {runs : List Run} {r : Run} {b : BankId}

theorem nil : RunsOf n [] [] := ⟨nofun, nofun, .nil⟩

/-- The beats of a later run, seen from one beat earlier. -/
theorem sound_cons (h : RunsOf (n + 1) srcs runs) (hr : r ∈ runs) :
    1 ≤ r.count ∧ n + 1 ≤ r.first ∧ ∀ k, k < r.count → (x :: srcs)[r.first - n + k]? = some (.bank r.bank) := by
  obtain ⟨hcount, hfirst, hbeats⟩ := h.sound r hr
  refine ⟨hcount, hfirst, fun k hk => ?_⟩
  have hplace : r.first - n + k = r.first - (n + 1) + k + 1 := by omega
  rw [hplace, List.getElem?_cons_succ]
  exact hbeats k hk

/-- A beat that no bank serves belongs to no run. -/
theorem skip (h : RunsOf (n + 1) srcs runs) (hx : ∀ b, x ≠ .bank b) : RunsOf n (x :: srcs) runs where
  sound r hr := by
    obtain ⟨hcount, hfirst, hbeats⟩ := h.sound_cons (x := x) hr
    exact ⟨hcount, by omega, hbeats⟩
  complete
    | 0, b, hb => (hx b (Option.some.inj hb)).elim
    | i + 1, b, hb => by
      obtain ⟨r, hr, hbank, hlo, hhi⟩ := h.complete i b hb
      exact ⟨r, hr, hbank, by omega, by omega⟩
  apart := h.apart

/-- A beat of a bank that no adjoining run serves begins a run. -/
theorem begins (h : RunsOf (n + 1) srcs runs) (hb : ∀ r ∈ runs.head?, r.first = n + 1 → r.bank ≠ b) :
    RunsOf n (.bank b :: srcs) (⟨n, 1, b⟩ :: runs) where
  sound := by
    refine List.forall_mem_cons.mpr ⟨⟨le_rfl, le_rfl, fun k hk => ?_⟩, fun r hr => ?_⟩
    · have hzero : k = 0 := Nat.lt_one_iff.mp hk
      simp [hzero]
    · obtain ⟨hcount, hfirst, hbeats⟩ := h.sound_cons (x := .bank b) hr
      exact ⟨hcount, by omega, hbeats⟩
  complete
    | 0, c, hc => ⟨_, List.mem_cons_self .., Source.bank.inj (Option.some.inj hc), by simp, by simp⟩
    | i + 1, c, hc => by
      obtain ⟨r, hr, hbank, hlo, hhi⟩ := h.complete i c hc
      exact ⟨r, List.mem_cons_of_mem _ hr, hbank, by omega, by omega⟩
  apart := by
    refine List.pairwise_cons.mpr ⟨fun q hq => ⟨(h.sound q hq).2.1, fun hadj => ?_⟩, h.apart⟩
    cases runs with
    | nil => exact nomatch hq
    | cons r rs =>
      obtain rfl | hlater := List.mem_cons.mp hq
      · exact (hb q rfl hadj.symm).symm
      · have hsep := (List.pairwise_cons.mp h.apart).1 q hlater
        have hhead := h.sound r (List.mem_cons_self ..)
        simp only at hadj
        omega

/-- A beat of the bank of the adjoining run lengthens that run. -/
theorem lengthens {rs : List Run} (h : RunsOf (n + 1) srcs (r :: rs)) (hb : r.bank = b) (hf : r.first = n + 1) :
    RunsOf n (.bank b :: srcs) (⟨n, r.count + 1, b⟩ :: rs) where
  sound := by
    refine List.forall_mem_cons.mpr ⟨⟨by simp, le_rfl, fun k hk => ?_⟩, fun q hq => ?_⟩
    · cases k with
      | zero => simp
      | succ k =>
        have hbeat := (h.sound r (List.mem_cons_self ..)).2.2 k (Nat.lt_of_succ_lt_succ hk)
        rw [hf, hb] at hbeat
        simpa using hbeat
    · obtain ⟨hcount, hfirst, hbeats⟩ := h.sound_cons (x := .bank b) (List.mem_cons_of_mem _ hq)
      exact ⟨hcount, by omega, hbeats⟩
  complete
    | 0, c, hc => ⟨_, List.mem_cons_self .., Source.bank.inj (Option.some.inj hc), by simp, by simp⟩
    | i + 1, c, hc => by
      obtain ⟨q, hq, hbank, hlo, hhi⟩ := h.complete i c hc
      obtain rfl | hlater := List.mem_cons.mp hq
      · exact ⟨_, List.mem_cons_self .., hb.symm.trans hbank, by simp, by simp only; omega⟩
      · exact ⟨q, List.mem_cons_of_mem _ hlater, hbank, by omega, by omega⟩
  apart := by
    obtain ⟨hhead, htail⟩ := List.pairwise_cons.mp h.apart
    refine List.pairwise_cons.mpr ⟨fun q hq => ?_, htail⟩
    obtain ⟨hsep, hadj⟩ := hhead q hq
    exact ⟨by simp only; omega, fun he => hb ▸ hadj (by simp only at he; omega)⟩

end RunsOf

/-- The runs are what R144 says of them. -/
theorem runsOf_runsFrom (srcs : List Source) (n : Nat) : RunsOf n srcs (runsFrom n srcs) := by
  induction srcs generalizing n with
  | nil => exact .nil
  | cons x srcs ih =>
    have hrest := ih (n + 1)
    cases x with
    | pattern => exact hrest.skip nofun
    | overlay => exact hrest.skip nofun
    | bank b =>
      rw [runsFrom]
      cases hruns : runsFrom (n + 1) srcs with
      | nil => exact (hruns ▸ hrest).begins nofun
      | cons r rs =>
        rw [hruns] at hrest
        dsimp only
        split_ifs with hadj
        · exact hrest.lengthens hadj.1 hadj.2
        · refine hrest.begins fun q hq hf hb => hadj ?_
          obtain rfl := Option.some.inj hq
          exact ⟨hb, hf⟩

/-! #### How many runs -/

/-- A run ends where its bank ends: the beat after it is not named to its bank (R144). -/
theorem RunsOf.maximal {srcs : List Source} {runs : List Run} (h : RunsOf 0 srcs runs) {r : Run} (hr : r ∈ runs) :
    srcs[r.first + r.count]? ≠ some (.bank r.bank) := by
  intro hbeat
  obtain ⟨q, hq, hbank, hlo, hhi⟩ := h.complete _ _ hbeat
  have hnone := List.Pairwise.forall_of_forall_of_flip
    (R := fun r q : Run => ¬ (q.bank = r.bank ∧ q.first ≤ r.first + r.count ∧ r.first + r.count < q.first + q.count))
    (fun r _ hin => lt_irrefl _ hin.2.2)
    (h.apart.imp fun hsep hin => hsep.2 (le_antisymm hsep.1 hin.2.1) hin.1.symm)
    (h.apart.imp fun hsep hin => by omega)
  exact hnone hr hq ⟨hbank, by omega, by omega⟩

/-- Where beats fall into classes in order, and a bank serves an unbroken stretch of each class, there is at most one run a class. -/
theorem RunsOf.length_le {srcs : List Source} {runs : List Run} (h : RunsOf 0 srcs runs) {cls : Nat → Nat} {N : Nat}
    (hmono : Monotone cls) (hbound : ∀ i, i < srcs.length → cls i < cls 0 + N)
    (hstretch : ∀ (i j : Nat) (b c : BankId), srcs[i]? = some (.bank b) → srcs[j]? = some (.bank c) → cls i = cls j →
      ∀ m, i ≤ m → m ≤ j → srcs[m]? = some (.bank b)) : runs.length ≤ N := by
  have hfirst : ∀ r ∈ runs, srcs[r.first]? = some (.bank r.bank) := fun r hr => by
    obtain ⟨hcount, -, hbeats⟩ := h.sound r hr
    exact hbeats 0 hcount
  have hclasses : (runs.map fun r => cls r.first).Pairwise (· < ·) := by
    refine List.pairwise_map.mpr (h.apart.imp_of_mem fun {r q} hr hq hsep => ?_)
    refine lt_of_le_of_ne (hmono (by omega)) fun heq => h.maximal hr ?_
    exact hstretch _ _ _ _ (hfirst r hr) (hfirst q hq) heq _ (by omega) hsep.1
  have hsub : (runs.map fun r => cls r.first).toFinset ⊆ Finset.Ico (cls 0) (cls 0 + N) := by
    intro k hk
    obtain ⟨r, hr, rfl⟩ := List.mem_map.mp (List.mem_toFinset.mp hk)
    obtain ⟨hlt, -⟩ := List.getElem?_eq_some_iff.mp (hfirst r hr)
    exact Finset.mem_Ico.mpr ⟨hmono (Nat.zero_le _), hbound _ hlt⟩
  have hcard := Finset.card_le_card hsub
  rw [List.toFinset_card_of_nodup (hclasses.imp ne_of_lt), List.length_map, Nat.card_Ico] at hcard
  omega

/-! #### The beats of a read -/

section
variable {c : WindowRec} {x : Txn} {src : Nat → Source}

theorem beatSources_length : (beatSources c x src).length = x.burst.val + 1 := by simp [beatSources]

theorem beatSources_getElem? {i : Nat} (hi : i ≤ x.burst.val) :
    (beatSources c x src)[i]? = some (src (beatOffset c x i)) := by
  simp [beatSources, Nat.lt_succ_of_le hi]

theorem beatSources_bank {i : Nat} {b : BankId} :
    (beatSources c x src)[i]? = some (.bank b) ↔ i ≤ x.burst.val ∧ src (beatOffset c x i) = .bank b := by
  constructor
  · intro h
    obtain ⟨hlt, -⟩ := List.getElem?_eq_some_iff.mp h
    rw [beatSources_length] at hlt
    have hi : i ≤ x.burst.val := Nat.le_of_lt_succ hlt
    exact ⟨hi, Option.some.inj ((beatSources_getElem? hi).symm.trans h)⟩
  · rintro ⟨hi, hs⟩
    rw [beatSources_getElem? hi, hs]

theorem beatOffset_mono (c : WindowRec) (x : Txn) : Monotone (beatOffset c x) := fun _ _ h =>
  Nat.add_le_add_left (Nat.mul_le_mul_right _ h) _

/-- Within a class of offsets a bank serves an unbroken stretch: between two offsets of one class that banks serve, the bank of the
first serves all. -/
def Unbroken (src : Nat → Source) (cls : Nat → Nat) : Prop :=
  ∀ (lo hi : Nat) (b d : BankId), src lo = .bank b → src hi = .bank d → cls lo = cls hi →
    ∀ o, lo ≤ o → o ≤ hi → src o = .bank b

/-- A read has at most one part for each class of offsets that its beats begin in. -/
theorem readParts_length_le {cls : Nat → Nat} {N : Nat} (hsrc : Unbroken src cls) (hmono : Monotone cls)
    (hbound : ∀ i, i ≤ x.burst.val → cls (beatOffset c x i) < cls (beatOffset c x 0) + N) (p : PortId) (w : WinId) (n : Nat) :
    (readParts p w c n x src).length ≤ N := by
  rw [readParts, List.length_map]
  refine (runsOf_runsFrom _ 0).length_le (hmono.comp (beatOffset_mono c x)) (fun i hi => ?_)
    fun i j b d hb hd hcls m him hmj => ?_
  · rw [beatSources_length] at hi
    exact hbound i (Nat.le_of_lt_succ hi)
  · obtain ⟨-, hlo⟩ := beatSources_bank.mp hb
    obtain ⟨hj, hhi⟩ := beatSources_bank.mp hd
    exact beatSources_bank.mpr ⟨hmj.trans hj,
      hsrc _ _ _ _ hlo hhi hcls _ (beatOffset_mono c x him) (beatOffset_mono c x hmj)⟩

/-- The overlay bytes come first (R114). -/
theorem isOverlayByte_of_le {lo o : Nat} (h : isOverlayByte c lo = false) (hle : lo ≤ o) : isOverlayByte c o = false := by
  simp only [isOverlayByte, Bool.and_eq_false_iff, decide_eq_false_iff_not] at h ⊢
  exact h.imp_right fun hlo ho => hlo (hle.trans_lt ho)

theorem snapshotClaimSource_bank {b d : BankId} {o : Nat} :
    snapshotClaimSource c b o = .bank d ↔ isOverlayByte c o = false ∧ b = d := by
  cases ho : isOverlayByte c o <;> simp [snapshotClaimSource, ho]

theorem queueClaimSource_bank {b d : BankId} {length o : Nat} :
    queueClaimSource c b length o = .bank d ↔ isOverlayByte c o = false ∧ o / 64 < length ∧ b = d := by
  cases ho : isOverlayByte c o
  · by_cases hl : o / 64 < length <;> simp [queueClaimSource, ho, Config.granuleBytes, hl]
  · simp [queueClaimSource, ho]

/-- A SNAPSHOT claim serves all bytes behind the overlay bytes (R54). -/
theorem snapshotClaimSource_unbroken (b : BankId) : Unbroken (snapshotClaimSource c b) fun _ => 0 := by
  intro lo hi d _ hlo _ _ o hle _
  obtain ⟨hover, hbank⟩ := snapshotClaimSource_bank.mp hlo
  exact snapshotClaimSource_bank.mpr ⟨isOverlayByte_of_le hover hle, hbank⟩

/-- A QUEUE claim serves the bytes from behind the overlay bytes to the end of the message (R103). -/
theorem queueClaimSource_unbroken (b : BankId) (length : Nat) : Unbroken (queueClaimSource c b length) fun _ => 0 := by
  intro lo hi d _ hlo hhi _ o hle hge
  obtain ⟨hover, -, hbank⟩ := queueClaimSource_bank.mp hlo
  obtain ⟨-, hlen, -⟩ := queueClaimSource_bank.mp hhi
  exact queueClaimSource_bank.mpr ⟨isOverlayByte_of_le hover hle, (Nat.div_le_div_right hge).trans_lt hlen, hbank⟩

end

/-- Behind the overlay bytes a granule of a producer read has one source (R46, R47, R112). -/
theorem State.producerSource_granule {s : State} {w : WinId} {o m : Nat} (ho : isOverlayByte (s.cfg w) o = false)
    (hm : isOverlayByte (s.cfg w) m = false) (hg : o / 64 = m / 64) : s.producerSource w o = s.producerSource w m := by
  cases hmode : (s.cfg w).mode with
  | snapshot => simp [State.producerSource, hmode, State.snapshotProducerSource, ho, hm, Config.granuleBytes, hg]
  | queue => simp [State.producerSource, hmode, State.queueProducerSource, ho, hm]

theorem State.producerSource_unbroken (s : State) (w : WinId) : Unbroken (s.producerSource w) (· / 64) := by
  intro lo hi b _ hlo _ (hg : lo / 64 = hi / 64) o hle hge
  have hover : isOverlayByte (s.cfg w) lo = false := by
    by_contra hover
    have hsrc := (producerReadServed.2.1 s w lo).1 (by simpa using hover)
    exact nomatch hsrc.symm.trans hlo
  rw [← hlo]
  exact State.producerSource_granule (isOverlayByte_of_le hover hle) hover (by omega)

/-- The beats of a burst begin in at most three granules (0.5). -/
theorem beatOffset_granules (c : WindowRec) (x : Txn) {i : Nat} (hi : i ≤ x.burst.val) :
    beatOffset c x i / 64 < beatOffset c x 0 / 64 + 3 := by
  have hburst := x.burst.isLt
  have hbeat : i * x.beatSize.bytes ≤ 15 * 8 := Nat.mul_le_mul (by omega) (by cases x.beatSize <;> decide)
  simp only [beatOffset]
  omega

/-! #### What a part carries -/

section
variable {c : WindowRec} {x : Txn} {src : Nat → Source}

/-- A run of beats lies in the burst. -/
theorem run_in_burst {r : Run} (hr : r ∈ runsFrom 0 (beatSources c x src)) :
    1 ≤ r.count ∧ r.first + r.count ≤ x.burst.val + 1 := by
  obtain ⟨hcount, -, hbeats⟩ := (runsOf_runsFrom _ 0).sound r hr
  obtain ⟨hlast, -⟩ := beatSources_bank.mp (hbeats (r.count - 1) (by omega))
  omega

theorem readPart_offset (p : PortId) (w : WinId) (n : Nat) (r : Run) (h : c.base.toNat ≤ x.addr.toNat) :
    (readPart p w c n x r).offset = x.addr - c.base + BitVec.ofNat 40 (r.first * x.beatSize.bytes) := by
  rw [← ofNat_startOffset h, ← BitVec.ofNat_add]
  rfl

theorem readPart_burst (p : PortId) (w : WinId) (n : Nat) {r : Run} (hr : r ∈ runsFrom 0 (beatSources c x src)) :
    (readPart p w c n x r).burst.val + 1 = r.count := by
  obtain ⟨hcount, hfits⟩ := run_in_burst hr
  have hburst := x.burst.isLt
  have hval : (readPart p w c n x r).burst.val = (r.count - 1) % 16 := rfl
  rw [hval]
  omega

/-- The example of R144: eight-byte beats 0 and 1 are overlay bytes, the other fourteen are one run. -/
theorem readParts_example (p : PortId) (w : WinId) (n : Nat) (b : BankId) (ho : c.overlay = true) (ha : x.addr = c.base)
    (hs : x.beatSize = .b8) (hb : x.burst = 15) :
    readParts p w c n x (snapshotClaimSource c b) = [readPart p w c n x ⟨2, 14, b⟩] := by
  have hoffset : ∀ i, beatOffset c x i = i * 8 := fun i => by
    simp [beatOffset, startOffset, firstByte, ha, hs, BeatSize.bytes]
  have hsources : beatSources c x (snapshotClaimSource c b) = .overlay :: .overlay :: List.replicate 14 (.bank b) := by
    simp [beatSources, hb, hoffset, snapshotClaimSource, isOverlayByte, ho, Config.overlayBytes, List.range_succ,
      List.replicate]
  rw [readParts, hsources]
  simp [runsFrom, List.replicate]

end

/-- Settles O17: `runsOf_runsFrom`, at most one run a class of offsets, and the fields of `readPart`. -/
theorem readPartsAreMaximalRuns : Obligations.ReadPartsAreMaximalRuns := by
  refine ⟨fun srcs n => ?_, ⟨fun p w c n x b => ?_, fun p w c n x b length => ?_, fun s p w n x => ?_⟩,
    fun p w c n x src hbase => ⟨beatSources_length, fun i hi => beatSources_getElem? hi, by rw [readParts, List.length_map],
      fun k q r hq hr => ?_⟩, fun p w c n x b ho ha hs hb => ?_⟩
  · have hruns := runsOf_runsFrom srcs n
    exact ⟨hruns.sound, hruns.complete, hruns.apart⟩
  · exact readParts_length_le (snapshotClaimSource_unbroken b) monotone_const (fun _ _ => by simp) p w n
  · exact readParts_length_le (queueClaimSource_unbroken b length) monotone_const (fun _ _ => by simp) p w n
  · exact readParts_length_le (s.producerSource_unbroken w) (fun _ _ h => Nat.div_le_div_right h)
      (fun _ hi => beatOffset_granules _ x hi) p w n
  · obtain rfl : readPart p w c n x r = q := by
      rw [readParts, List.getElem?_map, hr] at hq
      exact Option.some.inj hq
    exact ⟨rfl, rfl, rfl, rfl, rfl, readPart_offset p w n r hbase, rfl, readPart_burst p w n (List.mem_of_getElem? hr), rfl⟩
  · refine ⟨_, readParts_example p w n b ho ha hs hb, rfl, ?_, rfl⟩
    rw [readPart_offset p w n _ (by rw [ha]), ha, hs]
    simp [BeatSize.bytes]

end Sys2Proof.Machine
end

section
/-! ### The consumer's dispatches: refusals, holds, empty reads, writes (R51, R53, R62, R101, R107, R120, R121) -/

namespace Sys2Proof.Machine

open Sys2Proof

set_option Elab.async false

section
variable {s : State} {p : PortId} {e : Entry} {w : WinId} {b : BankId}

/-- A consumer write is given to the controller (R133). -/
theorem exec_consumerWrite (h : s.ConsumerDispatch p e w) (hk : e.txn.kind = .write) :
    exec (.dispatch p) s = .next ((s.consumerWrite w p e).1.settle p (s.consumerWrite w p e).2) := by
  rw [State.exec_dispatch h.dispatches, treat_consumer h, hk]

/-- A consumer read is given to the controller (R133). -/
theorem exec_consumerRead (h : s.ConsumerDispatch p e w) (hk : e.txn.kind = .read) :
    exec (.dispatch p) s = .next ((s.consumerRead w p e).1.settle p (s.consumerRead w p e).2) := by
  rw [State.exec_dispatch h.dispatches, treat_consumer h, hk]

/-! #### Which case of R51, R101, R62 fits -/

theorem State.consumerRead_snapshot (hm : (s.cfg w).mode = .snapshot) :
    s.consumerRead w p e = s.snapshotConsumerRead w p e := by
  simp only [State.consumerRead, hm]

theorem State.consumerRead_queue (hm : (s.cfg w).mode = .queue) : s.consumerRead w p e = s.queueConsumerRead w p e := by
  simp only [State.consumerRead, hm]

/-- R51 case 1, R101 case 1. -/
theorem State.consumerRead_deferred (hb : (s.claim w p).bank = some b) (hd : (s.claim w p).deferred = true)
    (hc : (s.claim w p).closing = false) : s.consumerRead w p e = s.refuse w := by
  cases hm : (s.cfg w).mode with
  | snapshot => simp [State.consumerRead_snapshot hm, State.snapshotConsumerRead, hb, hd, hc]
  | queue => simp [State.consumerRead_queue hm, State.queueConsumerRead, hb, hd, hc]

/-- R51 case 2, R101 case 2. -/
theorem State.consumerRead_closing (hb : (s.claim w p).bank = some b) (hc : (s.claim w p).closing = true) :
    s.consumerRead w p e = (s, .held w) := by
  cases hm : (s.cfg w).mode with
  | snapshot => simp [State.consumerRead_snapshot hm, State.snapshotConsumerRead, hb, hc]
  | queue => simp [State.consumerRead_queue hm, State.queueConsumerRead, hb, hc]

/-- R51 cases 3 and 4: a restart, at once or behind the reads in flight. -/
theorem State.consumerRead_restart (hm : (s.cfg w).mode = .snapshot) (hb : (s.claim w p).bank = some b)
    (hheld : (s.bank w b).state = .held) (hc : (s.claim w p).closing = false) (hd : (s.claim w p).deferred = false)
    (hz : touchesGranuleZero (s.cfg w) e.txn = true) :
    s.consumerRead w p e = if (s.claim w p).reads = 0 then s.restart w p e else (s.setClosing w p, .held w) := by
  simp [State.consumerRead_snapshot hm, State.snapshotConsumerRead, hb, hheld, hc, hd, hz]

/-- R51 case 5. -/
theorem State.consumerRead_claimed (hm : (s.cfg w).mode = .snapshot) (hb : (s.claim w p).bank = some b)
    (hc : (s.claim w p).closing = false) (hd : (s.claim w p).deferred = false)
    (hz : (s.bank w b).state ≠ .held ∨ touchesGranuleZero (s.cfg w) e.txn = false) :
    s.consumerRead w p e = s.serveSnapshot w p b e := by
  have hstays : ¬ ((s.bank w b).state = .held ∧ touchesGranuleZero (s.cfg w) e.txn = true) := fun ⟨hheld, hzero⟩ =>
    hz.elim (· hheld) fun hno => Bool.noConfusion (hno.symm.trans hzero)
  simp [State.consumerRead_snapshot hm, State.snapshotConsumerRead, hb, hc, hd, hstays, State.serve, hm]

/-- R51 case 6, R101 case 4. -/
theorem State.consumerRead_empty (hb : (s.claim w p).bank = none)
    (hn : ((s.cfg w).mode = .snapshot ∧ s.NoCurrent w) ∨ ((s.cfg w).mode = .queue ∧ (s.win w).order = [])) :
    s.consumerRead w p e = s.emptyRead w p e := by
  obtain ⟨hm, hcur⟩ | ⟨hm, ho⟩ := hn
  · simp [State.consumerRead_snapshot hm, State.snapshotConsumerRead, hb, hcur.currentBank]
  · simp [State.consumerRead_queue hm, State.queueConsumerRead, hb, ho]

/-- R51 case 7. -/
theorem State.consumerRead_expired (hm : (s.cfg w).mode = .snapshot) (hb : (s.claim w p).bank = none) (hcur : s.IsCurrent w b)
    (he : (s.claim w p).expired = true) (hz : touchesGranuleZero (s.cfg w) e.txn = false) :
    s.consumerRead w p e = s.refuse w := by
  simp [State.consumerRead_snapshot hm, State.snapshotConsumerRead, hb, hcur.currentBank, he, hz]

/-- R51 case 8. -/
theorem State.consumerRead_opens (hm : (s.cfg w).mode = .snapshot) (hb : (s.claim w p).bank = none) (hcur : s.IsCurrent w b)
    (he : (s.claim w p).expired = false ∨ touchesGranuleZero (s.cfg w) e.txn = true) :
    s.consumerRead w p e = s.openAndServe w p b e := by
  have hopens : ((s.claim w p).expired && !touchesGranuleZero (s.cfg w) e.txn) = false := by
    obtain h | h := he <;> simp [h]
  simp [State.consumerRead_snapshot hm, State.snapshotConsumerRead, hb, hcur.currentBank, hopens]

/-- The rows of R62 and R107 that refuse. -/
theorem State.consumerWrite_refused
    (h : overlayOnly (s.cfg w) e.txn = false ∨ (s.claim w p).bank = none ∨
      ((s.claim w p).deferred = true ∧ (s.claim w p).closing = false)) : s.consumerWrite w p e = s.refuse w := by
  obtain ho | hb | ⟨hd, hc⟩ := h
  · simp [State.consumerWrite, ho]
  · simp [State.consumerWrite, hb]
  · cases hb : (s.claim w p).bank <;> simp [State.consumerWrite, hb, hd, hc]

theorem State.consumerWrite_closing (ho : overlayOnly (s.cfg w) e.txn = true) (hb : (s.claim w p).bank = some b)
    (hc : (s.claim w p).closing = true) : s.consumerWrite w p e = (s, .answered .okay []) := by
  simp [State.consumerWrite, ho, hb, hc]

theorem State.consumerWrite_releases (ho : overlayOnly (s.cfg w) e.txn = true) (hb : (s.claim w p).bank = some b)
    (hc : (s.claim w p).closing = false) (hd : (s.claim w p).deferred = false) :
    s.consumerWrite w p e =
      if (s.claim w p).reads = 0 then (s.releaseClaim w p, .answered .okay []) else (s.setClosing w p, .answered .okay []) := by
  simp [State.consumerWrite, ho, hb, hc, hd]

/-! #### Answers and holds without a claim's bank -/

theorem settle_refuse (s : State) (w : WinId) (p : PortId) :
    s.AnswersEntry ((s.refuse w).1.settle p (s.refuse w).2) p .refused [] ∧
      ((s.refuse w).1.settle p (s.refuse w).2).windows =
        s.windows.set w.val { s.win w with refusals := (s.win w).refusals + 1 } ∧
      { (s.refuse w).1.settle p (s.refuse w).2 with ports := s.ports, windows := s.windows } = s :=
  ⟨answersEntry_settle (s := s) (u := s.countRefusal w) rfl .., rfl, rfl⟩

/-- Settles O20: the cases of R51 and R101 that refuse or hold. -/
theorem consumerReadRefusedOrHeld : Obligations.ConsumerReadRefusedOrHeld := by
  refine fun s p e w h hk => ⟨fun b hb hd hc => ⟨_, exec_consumerRead h hk, ?_⟩,
    fun b hb hc => ⟨_, exec_consumerRead h hk, ?_⟩,
    fun b hm hb hheld hc hd hr hz => ⟨_, exec_consumerRead h hk, ?_⟩,
    fun b hm hb hcur he hz => ⟨_, exec_consumerRead h hk, ?_⟩⟩
  · rw [State.consumerRead_deferred hb hd hc]
    exact settle_refuse s w p
  · rw [State.consumerRead_closing hb hc]
    exact ⟨holdsEntry_settle rfl rfl, rfl⟩
  · rw [State.consumerRead_restart hm hb hheld hc hd hz, if_neg hr]
    exact ⟨holdsEntry_settle (u := s.setClosing w p) rfl rfl, rfl, rfl⟩
  · rw [State.consumerRead_expired hm hb hcur he hz]
    exact settle_refuse s w p

/-! #### Empty reads (R53, R120, R121) -/

theorem State.emptyRead_answered (h : (s.cfg w).empty = .pattern ∨ overlayOnly (s.cfg w) e.txn = true) :
    s.emptyRead w p e = (s, .answered .okay (s.emptyData w p e.txn)) := by
  cases hp : (s.cfg w).empty with
  | pattern => simp [State.emptyRead, hp]
  | refuse => simp [State.emptyRead, hp, h.resolve_left (by simp [hp])]

theorem State.emptyRead_refused (hp : (s.cfg w).empty = .refuse) (ho : overlayOnly (s.cfg w) e.txn = false) :
    s.emptyRead w p e = s.refuse w := by
  simp [State.emptyRead, hp, ho]

/-- The EMPTY descriptor (R120, R121). -/
theorem State.emptyDescriptor_eq (s : State) (w : WinId) (p : PortId) : s.emptyDescriptor w p =
    le16 0 ++ le16Nat (if (s.cfg w).mode = Mode.snapshot then (s.cfg w).granuleCount else 0) ++ le16Nat 0
      ++ [0, 0, 0, 1] ++ le32 0 ++ [BitVec.ofNat 8 p.val, BitVec.ofNat 8 w.val] := by
  cases hm : (s.cfg w).mode <;> simp [State.emptyDescriptor, consumerBytes, WindowRec.emptyView, hm, byteOf, flagByte]

theorem State.emptyData_getElem? {x : Txn} {i : Nat} (hi : i < x.bytes) : (s.emptyData w p x)[i]? =
    some (if isOverlayByte (s.cfg w) (startOffset (s.cfg w) x + i) then
      (s.emptyDescriptor w p).getD (startOffset (s.cfg w) x + i) 0 else (s.cfg w).fillbyte) := by
  cases ho : isOverlayByte (s.cfg w) (startOffset (s.cfg w) x + i) <;> simp [State.emptyData, initialData, hi, ho]

/-- Settles O21: the answer as EMPTY says, and DATA byte by byte. -/
theorem emptyReadAnswered : Obligations.EmptyReadAnswered := by
  refine ⟨fun s p e w h hk hb hn =>
      ⟨fun hp => ⟨_, exec_consumerRead h hk, ?_⟩, fun hp ho => ⟨_, exec_consumerRead h hk, ?_⟩⟩,
    fun s w p x i hi => ⟨fun ho => ?_, fun ho => ?_⟩⟩
  · rw [State.consumerRead_empty hb hn, State.emptyRead_answered hp]
    exact ⟨answersEntry_settle rfl .., rfl⟩
  · rw [State.consumerRead_empty hb hn, State.emptyRead_refused hp ho]
    exact settle_refuse s w p
  · rw [State.emptyData_getElem? hi, ho]
    rfl
  · rw [State.emptyData_getElem? hi, ho, State.emptyDescriptor_eq]
    rfl

/-! #### Consumer writes (R62, R107) -/

/-- A release event finds nothing to wake where nothing is held (R135). -/
theorem State.afterRelease_of_no_hold (h : ∀ x ∈ (s.port p).entries, x.state ≠ .held) :
    (s.port p).afterRelease w = s.port p := by
  have hport := s.port_releaseEvent w p p
  rw [State.releaseEvent_of_no_hold s w p h, if_pos rfl] at hport
  exact hport.symm

/-- A release leaves the list of its own port where nothing is held (R135). -/
theorem State.port_releaseClaim (h : ∀ x ∈ (s.port p).entries, x.state ≠ .held) :
    (s.releaseClaim w p).port p = s.port p := by
  cases hm : (s.cfg w).mode with
  | snapshot => rw [State.releaseClaim_snapshot hm, State.port_releaseSnapshot, if_pos rfl, State.afterRelease_of_no_hold h]
  | queue => rw [State.releaseClaim_queue hm, State.port_releaseQueue, if_pos (.inl rfl), State.afterRelease_of_no_hold h]

/-- Settles O23: the rows of the table of R62 and R107. -/
theorem consumerWriteAnswered : Obligations.ConsumerWriteAnswered := by
  refine fun s p e w h hk => ⟨fun hx => ⟨_, exec_consumerWrite h hk, ?_⟩, fun b ho hb =>
    ⟨fun hc => ⟨_, exec_consumerWrite h hk, ?_⟩, fun hc hd hr => ⟨_, exec_consumerWrite h hk, ?_⟩,
      fun hc hd hr => ⟨_, exec_consumerWrite h hk, ?_⟩⟩⟩
  · rw [State.consumerWrite_refused hx]
    exact settle_refuse s w p
  · rw [State.consumerWrite_closing ho hb hc]
    exact ⟨answersEntry_settle rfl .., rfl⟩
  · rw [State.consumerWrite_releases ho hb hc hd, if_neg hr]
    exact ⟨answersEntry_settle (s := s) (u := s.setClosing w p) rfl .., rfl, rfl⟩
  · rw [State.consumerWrite_releases ho hb hc hd, if_pos hr]
    have hans := answersEntry_settle (s := s.releaseClaim w p) (p := p) rfl .okay []
    refine ⟨?_, hans.others, rfl⟩
    rw [hans.port, State.port_releaseClaim h.dispatches.noHold]

end

end Sys2Proof.Machine
end

section
/-! ### Reads served from a SNAPSHOT claim (R51, R52, R54, R56, R59) -/

namespace Sys2Proof.Machine

open Sys2Proof

set_option Elab.async false

section
variable {s u : State} {p : PortId} {e : Entry} {w : WinId} {b : BankId}

/-! #### A read served (R54, R59) -/

/-- A claim record after a read with the given parts has been served from it, which closes it or not (R54, R59). -/
def Claim.served (parts : List MemReq) (closes : Bool) (k : Claim) : Claim :=
  { k with reads := k.reads + inFlight parts, closing := k.closing || closes }

/-- A window controller after such a read of port p (R13, R54). -/
def WinCtl.served (p : PortId) (parts : List MemReq) (closes : Bool) (x : WinCtl) : WinCtl :=
  { x.modClaim p (Claim.served parts closes) with outstanding := x.outstanding + inFlight parts }

/-- A read without a memory part that does not close leaves the controller as it is. -/
theorem WinCtl.served_nil (p : PortId) (x : WinCtl) : x.served p [] false = x := by
  have hclaim : x.claims[p].served [] false = x.claims[p] := by simp [Claim.served, inFlight]
  have hmod : x.modClaim p (Claim.served [] false) = x := by
    rw [WinCtl.modClaim, hclaim]
    simp
  simp [WinCtl.served, hmod, inFlight]

/-- What a read served from a SNAPSHOT claim does to the window, and how it is treated (R54, R59). -/
theorem State.serveSnapshot_eq {parts : List MemReq}
    (hp : parts = readParts p w (s.cfg w) e.serial e.txn (snapshotClaimSource (s.cfg w) b)) :
    s.serveSnapshot w p b e =
      (s.modWin w (WinCtl.served p parts (closesSnapshot (s.cfg w) e.txn)),
        if parts = [] then
          .answered .okay (initialData (s.cfg w) e.txn (snapshotClaimSource (s.cfg w) b) (s.consumerDescriptor w p b))
        else
          .sent parts (initialData (s.cfg w) e.txn (snapshotClaimSource (s.cfg w) b) (s.consumerDescriptor w p b)) none
            false) := by
  cases parts with
  | nil =>
    simp only [State.serveSnapshot, ← hp, if_true]
    cases closesSnapshot (s.cfg w) e.txn with
    | false => simp [State.modWin, WinCtl.served_nil]
    | true => simp [State.setClosing, State.modClaim, State.modWin, WinCtl.served, WinCtl.modClaim, Claim.served, inFlight]
  | cons part parts =>
    simp only [State.serveSnapshot, ← hp]
    cases closesSnapshot (s.cfg w) e.txn <;>
      simp [State.sendRead, State.opStarted, State.setClosing, State.modClaim, State.modWin, WinCtl.served, WinCtl.modClaim,
        Claim.served, inFlight]

/-- The descriptor of a claim says nothing of READS, CLOSING and the ports (R120, R121). -/
theorem State.consumerDescriptor_congr {t : State} (hc : t.cfg w = s.cfg w) (hb : t.bank w b = s.bank w b)
    (ho : (t.win w).order = (s.win w).order) (hm : (t.claim w p).claimmissed = (s.claim w p).claimmissed)
    (he : (t.claim w p).claimexpired = (s.claim w p).claimexpired) :
    t.consumerDescriptor w p b = s.consumerDescriptor w p b := by
  simp only [State.consumerDescriptor, State.claimView, hc, hb, ho, hm, he]

/-- A read served in a state u in which nothing but controllers and banks differs from s. -/
theorem exec_servedSnapshot {parts : List MemReq} (h : s.ConsumerDispatch p e w) (hk : e.txn.kind = .read)
    (hcfg : u.cfg w = s.cfg w) (hports : u.ports = s.ports) (hmport : u.mport = s.mport)
    (hread : s.consumerRead w p e = u.serveSnapshot w p b e)
    (hp : parts = readParts p w (s.cfg w) e.serial e.txn (snapshotClaimSource (s.cfg w) b)) :
    ∃ t, exec (.dispatch p) s = .next t ∧
      s.ServesRead t p parts
        (initialData (s.cfg w) e.txn (snapshotClaimSource (s.cfg w) b) (t.consumerDescriptor w p b)) ∧
      t.windows = u.windows.set w.val ((u.win w).served p parts (closesSnapshot (s.cfg w) e.txn)) ∧
      { t with ports := u.ports, windows := u.windows, mport := u.mport } = u := by
  refine ⟨_, exec_consumerRead h hk, ?_⟩
  rw [hread, State.serveSnapshot_eq (hcfg ▸ hp), hcfg]
  set v := u.modWin w (WinCtl.served p parts (closesSnapshot (s.cfg w) e.txn))
  have hdesc : v.consumerDescriptor w p b = u.consumerDescriptor w p b :=
    State.consumerDescriptor_congr rfl rfl (by simp [v, WinCtl.served, WinCtl.modClaim])
      (by simp [v, State.claim, WinCtl.served, WinCtl.modClaim, Claim.served])
      (by simp [v, State.claim, WinCtl.served, WinCtl.modClaim, Claim.served])
  rw [← hdesc]
  by_cases hnil : parts = []
  · rw [if_pos hnil]
    exact ⟨⟨fun _ => ⟨answersEntry_settle (u := v) hports .., hmport⟩, fun hne => (hne hnil).elim⟩, rfl, rfl⟩
  · rw [if_neg hnil]
    exact ⟨⟨fun h => (hnil h).elim, fun _ => sendsEntry_settle (u := v) hports hmport ..⟩, rfl, rfl⟩

/-! #### A claim opened (R52) -/

/-- A claim opens on a bank of a SNAPSHOT window (R52). -/
theorem State.Moves.openClaim {x : WinCtl} {r : BankRec} (h : s.Moves w b x r u) (own : (s.recordOf w b).isSome = true)
    (hm : (s.cfg w).mode = .snapshot) (p : PortId) :
    s.Moves w b
      { x with claims := x.claims.set p.val (x.claims[p].opened b (u.bank w b).seq (u.armed (u.cfg w).claimlim)) }
      { r with holders := addPort r.holders p } (u.openClaim w p b) := by
  have hmode : (u.cfg w).mode = .snapshot := by rw [h.cfg, hm]
  simp only [State.openClaim, hmode]
  exact (h.modClaim p (Claim.opened b (u.bank w b).seq (u.armed (u.cfg w).claimlim))).modBank own
    fun r => { r with holders := addPort r.holders p }

/-- A controller whose claim record has just been written, after a read has been served from the claim. -/
theorem WinCtl.served_set (p : PortId) (parts : List MemReq) (closes : Bool) (x : WinCtl) (k : Claim) :
    ({ x with claims := x.claims.set p.val k } : WinCtl).served p parts closes =
      { x with outstanding := x.outstanding + inFlight parts, claims := x.claims.set p.val (k.served parts closes) } := by
  simp [WinCtl.served, WinCtl.modClaim]

/-- A claim opens in a state v, in which nothing but controllers and banks differs from s, and its read is served (R52, R54). -/
theorem exec_openAndServe {v : State} {parts : List MemReq} (h : s.ConsumerDispatch p e w) (hk : e.txn.kind = .read)
    (hm : (s.cfg w).mode = .snapshot) (hcfg : v.cfg w = s.cfg w) (hports : v.ports = s.ports) (hmport : v.mport = s.mport)
    (own : (v.recordOf w b).isSome = true) (hread : s.consumerRead w p e = v.openAndServe w p b e)
    (hp : parts = readParts p w (s.cfg w) e.serial e.txn (snapshotClaimSource (s.cfg w) b)) :
    ∃ t, exec (.dispatch p) s = .next t ∧
      s.ServesRead t p parts
        (initialData (s.cfg w) e.txn (snapshotClaimSource (s.cfg w) b) (t.consumerDescriptor w p b)) ∧
      t.windows = v.windows.set w.val
        { v.win w with
          outstanding := (v.win w).outstanding + inFlight parts
          claims := (v.win w).claims.set p.val
            (((v.claim w p).opened b (v.bank w b).seq (v.armed (s.cfg w).claimlim)).served parts
              (closesSnapshot (s.cfg w) e.txn)) } ∧
      t.pool = (v.openClaim w p b).pool ∧
      { t with ports := v.ports, windows := v.windows, pool := v.pool, mport := v.mport } = v := by
  have hopen := (State.Moves.refl (s := v)).openClaim own (hcfg ▸ hm) p
  have hserves : v.openAndServe w p b e = (v.openClaim w p b).serveSnapshot w p b e := by
    simp only [State.openAndServe, State.serve, hopen.cfg, hcfg, hm]
  obtain ⟨t, hexec, hserved, hwindows, hrest⟩ := exec_servedSnapshot h hk ((hopen.cfg w).trans hcfg)
    (hopen.ports.trans hports) (hopen.mport.trans hmport) (hread.trans hserves) hp
  refine ⟨t, hexec, hserved, ?_, (congrArg State.pool hrest :), ?_⟩
  · rw [hwindows, hopen.windows, hopen.win, Vector.set_set, WinCtl.served_set, hcfg]
    rfl
  · exact (congrArg (fun u : State => { u with ports := v.ports, windows := v.windows, pool := v.pool, mport := v.mport })
      hrest).trans (congrArg (fun u : State => { u with ports := v.ports, mport := v.mport }) hopen.rest)

/-- Settles O18: a claim opens and its read is served, or the read is served from the claim as it stands. -/
theorem snapshotClaimReads : Obligations.SnapshotClaimReads := by
  refine fun s p e w b parts h hm hk hp => ⟨fun hb hcur he => ?_, fun hb hc hd hz => ?_⟩
  · have hopen := (State.Moves.refl (s := s)).openClaim hcur.owned hm p
    obtain ⟨t, hexec, hserved, hwindows, hpool, hrest⟩ :=
      exec_openAndServe h hk hm rfl rfl rfl hcur.owned (State.consumerRead_opens hm hb hcur he) hp
    exact ⟨t, hexec, hserved, hwindows, hopen.bank.congr hpool, hrest⟩
  · have hclaim : (s.claim w p).served parts (closesSnapshot (s.cfg w) e.txn) =
        { s.claim w p with
          reads := (s.claim w p).reads + inFlight parts, closing := spanHas (s.cfg w) e.txn (s.cfg w).lastOffset } := by
      simp [Claim.served, closesSnapshot, hc]
    rw [← hclaim]
    exact exec_servedSnapshot h hk rfl rfl rfl (State.consumerRead_claimed hm hb hc hd hz) hp

/-! #### Restarts (R56) -/

/-- With no entry held, a release in SNAPSHOT moves the controller and the claimed bank alone. -/
theorem State.releaseSnapshot_moves_of_no_hold (h : ∀ x ∈ (s.port p).entries, x.state ≠ .held)
    (own : (s.recordOf w b).isSome = true) (hb : (s.claim w p).bank = some b) :
    s.Moves w b { s.win w with claims := (s.win w).claims.set p.val (s.claim w p).ended } ((s.bank w b).unclaimed p)
      (s.releaseSnapshot w p) := by
  have hmoves := State.releaseSnapshot_moves own hb
  have hports : (s.releaseSnapshot w p).ports = s.ports := by
    rw [State.releaseSnapshot_of_claim hb]
    exact State.ports_releaseEvent rfl h
  rw [← hports] at hmoves
  exact hmoves

/-- A change of one bank that is not the CURRENT one and does not become it leaves the CURRENT bank. -/
theorem State.Moves.isCurrent {o : BankId} {x : WinCtl} {r : BankRec} (h : s.Moves w o x r u) (hcur : s.IsCurrent w b)
    (hne : b ≠ o) (hr : r.state ≠ .current) : u.IsCurrent w b where
  inWindow := h.cfg w ▸ hcur.inWindow
  current := by rw [h.bank_ne hne, hcur.current]
  only a ha := by
    by_cases hao : a = o
    · rw [hao, h.bank.bank] at ha
      exact (hr ha).elim
    · rw [h.bank_ne hao] at ha
      exact hcur.only a ha
  owned := h.recordOf b ▸ hcur.owned

theorem State.restart_current (hcur : (s.releaseSnapshot w p).IsCurrent w b) :
    s.restart w p e = (s.releaseSnapshot w p).openAndServe w p b e := by
  simp only [State.restart, hcur.currentBank]

/-- A HELD bank that a port leaves is FREE when the port was its last holder (R60). -/
theorem BankRec.unclaimed_of_held {r : BankRec} (h : r.state = .held) (p : PortId) : r.unclaimed p =
    { r with
      holders := removePort r.holders p, state := if removePort r.holders p = 0 then .free else .held } := by
  simp [BankRec.unclaimed, h]

/-- Settles O19: the release of the old claim, then the new claim on the CURRENT bank and the read served from it. -/
theorem restartClaimsCurrent : Obligations.RestartClaimsCurrent := by
  intro s p e w o b parts h hm hk ho hheld own hcur hc hd hr hz hp
  have hne : b ≠ o := fun heq => by
    have hcurrent := hcur.current
    rw [heq, hheld] at hcurrent
    exact nomatch hcurrent
  have hend := State.releaseSnapshot_moves_of_no_hold h.dispatches.noHold own ho
  rw [BankRec.unclaimed_of_held hheld] at hend
  have hvcur := hend.isCurrent hcur hne (by dsimp only; split_ifs <;> nofun)
  have hread : s.consumerRead w p e = (s.releaseSnapshot w p).openAndServe w p b e := by
    rw [State.consumerRead_restart hm ho hheld hc hd hz, if_pos hr, State.restart_current hvcur]
  obtain ⟨t, hexec, hserved, hwindows, hpool, hrest⟩ :=
    exec_openAndServe h hk hm (hend.cfg w) hend.ports hend.mport hvcur.owned hread hp
  set v := s.releaseSnapshot w p
  have htime : v.time = s.time := (congrArg State.time hend.rest :)
  have hopen := (State.Moves.refl (s := v)).openClaim hvcur.owned (by rw [hend.cfg, hm]) p
  have hbank (c : BankId) : t.bank w c = (v.openClaim w p b).bank w c := State.bank_congr fun i _ => by rw [hpool]
  refine ⟨t, hexec, hserved, ?_, ?_, ?_, fun i hib hio => ?_, ?_⟩
  · have hclaim : ((s.claim w p).ended.opened b (s.bank w b).seq (v.armed (s.cfg w).claimlim)).served parts
        (closesSnapshot (s.cfg w) e.txn) =
        { s.claim w p with
          bank := some b
          lastseq := (s.bank w b).seq
          claimmissed := (s.claim w p).missed
          missed := 0
          claimexpired := (s.claim w p).expired
          expired := false
          claimdl := if (s.cfg w).claimlim = 0 then none else some (s.time.stamp + (s.cfg w).claimlim.setWidth 32)
          reads := inFlight parts
          closing := spanHas (s.cfg w) e.txn (s.cfg w).lastOffset } := by
      simp [Claim.served, Claim.opened, Claim.ended, closesSnapshot, hd, hr, State.armed, State.due, htime]
    rw [hwindows, hend.windows, Vector.set_set, State.claim, hend.win, hend.bank_ne hne, ← hclaim]
    simp
  · rw [hbank, hopen.bank.bank, hend.bank_ne hne]
  · rw [hbank, hopen.bank_ne hne.symm, hend.bank.bank]
  · rw [hpool, hopen.bank.others i (by rwa [hend.recordOf]), hend.bank.others i hio]
  · exact (congrArg (fun u : State => { u with ports := s.ports, windows := s.windows, pool := s.pool, mport := s.mport })
      hrest).trans (congrArg (fun u : State => { u with ports := s.ports, mport := s.mport }) hend.rest)

end

end Sys2Proof.Machine
end

section
/-! ### The completion of a merge job's operation (R74 to R79, R82) -/

namespace Sys2Proof.Machine

open Sys2Proof

set_option Elab.async false

section
variable {s : State} {o : Issue} {j : Job} {ok : Bool} {rdata : Burst}

/-! #### At the engine -/

/-- The engine's completion goes to the engine, for the window of its head job (R150). -/
theorem exec_engineNext (h : s.EngineNext o j) (ok : Bool) (rdata : Burst) :
    exec (.memoryCompletion ok rdata) s = .next (s.issueRetired.engineCompletion j.window ok rdata) := by
  have howner : ¬ o.owner.val < 4 := by rw [h.owner]; decide
  rw [exec_completion h.running h.oldest, State.route, dif_neg howner, h.window]

theorem State.EngineNext.jobs (h : s.EngineNext o j) : s.issueRetired.engine.jobs = j :: s.engine.jobs.tail := by
  obtain ⟨rest, hrest⟩ := List.head?_eq_some_iff.mp h.head
  change s.engine.jobs = _
  rw [hrest, List.tail_cons]

/-- The state when the completed issue has left the outstanding-issue list and its job the job list (R78, R79, R82, R150). -/
def State.jobRetired (s : State) : State := s.issueRetired.modJobs fun _ => s.engine.jobs.tail

/-- The aborted job leaves, whatever memory answered (R82). -/
theorem exec_engine_aborted (h : s.EngineNext o j) (ha : j.aborted = true) :
    exec (.memoryCompletion ok rdata) s = .next ((s.jobRetired.opDone j.window).startHead) := by
  simp [exec_engineNext h, State.engineCompletion, h.jobs, ha, State.jobRetired]

/-- A memory error ends the job in a failure (R79). -/
theorem exec_engine_error (h : s.EngineNext o j) (ha : j.aborted = false) :
    exec (.memoryCompletion false rdata) s = .next (((s.jobRetired.mergeFailure j).opDone j.window).startHead) := by
  simp [exec_engineNext h, State.engineCompletion, h.jobs, ha, State.jobRetired]

/-- A granule has been read (R74). -/
theorem exec_engine_read (h : s.EngineNext o j) (ha : j.aborted = false) (hp : j.phase = .reading) :
    exec (.memoryCompletion true rdata) s =
      .next ((s.issueRetired.granuleFetched j s.engine.jobs.tail rdata).opDone j.window) := by
  simp [exec_engineNext h, State.engineCompletion, h.jobs, ha, hp]

/-- A granule has been written (R76). -/
theorem exec_engine_written (h : s.EngineNext o j) (ha : j.aborted = false) (hp : j.phase = .writing) :
    exec (.memoryCompletion true rdata) s = .next (s.issueRetired.granuleStored j.window j s.engine.jobs.tail) := by
  simp [exec_engineNext h, State.engineCompletion, h.jobs, ha, hp]

/-! #### The job goes on (R74, R75, R76) -/

/-- A request and a completion in one event leave OUTSTANDING of an ACTIVE window, and so its controller, as it was (R13). -/
theorem State.opDone_requestOp {w : WinId} (hact : (s.win w).life = .active) (r : MemReq) :
    (s.requestOp w r).opDone w = s.handOver engineRequester [r] := by
  have hlife : ((s.requestOp w r).win w).life = .active := by
    change ((s.opStarted w).win w).life = _
    rw [State.opStarted, State.win_modWin_same, hact]
  have hcount : (s.opStarted w).opEnded w = s := calc
    (s.opStarted w).opEnded w = s.modWin w id := State.modWin_modWin ..
    _ = s := by rw [State.modWin, id, show s.windows.set w.val s.windows[w] = s.windows from s.windows_set_win w]
  rw [State.opDone_of_active hlife]
  exact congrArg (State.handOver · engineRequester [r]) hcount

/-- A fetched granule waits in the buffer for its write (R74). -/
theorem State.granuleFetched_opDone {js : List Job} {g : Nat} {rest : List Nat} (hact : (s.win j.window).life = .active)
    (hg : j.pending = g :: rest) :
    (s.granuleFetched j js rdata).opDone j.window =
      ((s.modJobs fun _ => { j with phase := .writing } :: js).setBuffer (rdata.setWidth 512)).handOver engineRequester
        [engineReq j.window .write (s.granuleAddr j.window j.dest g) (rdata.setWidth 512)] := by
  have hhead : j.pending.headD 0 = g := by rw [hg, List.headD_cons]
  rw [State.granuleFetched, hhead]
  exact State.opDone_requestOp
    (s := (s.modJobs fun _ => { j with phase := .writing } :: js).setBuffer (rdata.setWidth 512)) hact _

/-- The job when a granule has been written (R76). -/
def Job.granuleDone (j : Job) : Job := { j with pending := j.pending.tail, filled := j.filled + 1 }

/-- A granule is written and the next starts (R73, R75, R76). -/
theorem State.granuleStored_next {js : List Job} {g k : Nat} {rest : List Nat} (hact : (s.win j.window).life = .active)
    (hg : j.pending = g :: k :: rest) :
    s.granuleStored j.window j js =
      (s.modJobs fun _ => j.granuleDone.started :: js).handOver engineRequester [s.granuleRequest j k] := by
  have hpending : j.granuleDone.pending = k :: rest := by rw [Job.granuleDone, hg, List.tail_cons]
  have hstart := State.startHead_cons (s := s.modJobs fun _ => j.granuleDone :: js) rfl hpending
  have hmore : s.granuleStored j.window j js = ((s.modJobs fun _ => j.granuleDone :: js).startHead).opDone j.window := by
    simp [State.granuleStored, Job.granuleDone, hg]
  rw [hmore, hstart]
  exact State.opDone_requestOp (s := s.modJobs fun _ => j.granuleDone.started :: js) hact _

/-! #### The job ends (R78, R79, R82) -/

/-- The last granule's write is followed by the publication (R78). -/
theorem State.granuleStored_last {js : List Job} {g : Nat} (hg : j.pending = [g]) :
    s.granuleStored j.window j js =
      (((s.modJobs fun _ => js).mergeSuccess j.granuleDone).opDone j.window).startHead := by
  simp [State.granuleStored, Job.granuleDone, hg]

end

/-! #### What the completion leaves -/

/-- Settles O36: `granuleFetched_opDone` and `granuleStored_next`, with the request of each kind of source written out. -/
theorem mergeGoesOn : Obligations.MergeGoesOn := by
  refine fun s o j rdata h hact ha => ⟨fun g rest hp hg => ?_, fun g k rest hp hg => ?_⟩
  · refine ⟨_, exec_engine_read h ha hp, ?_⟩
    rw [State.granuleFetched_opDone (s := s.issueRetired) hact hg]
    exact ⟨rfl, rfl, rfl⟩
  · refine ⟨_, exec_engine_written h ha hp, ?_⟩
    rw [State.granuleStored_next (s := s.issueRetired) hact hg]
    have hjob : j.granuleDone.started =
        { j with
          pending := k :: rest, filled := j.filled + 1
          phase := if j.source = none then .writing else .reading } := by
      simp [Job.granuleDone, Job.started, hg]
    refine ⟨by rw [← hjob]; rfl, ?_, rfl⟩
    cases hs : j.source with
    | none =>
      simp only [State.granuleRequest, hs, if_true]
      rfl
    | some b =>
      have hread : (0 : GranuleBytes).setWidth 1024 = (0 : Burst) := BitVec.setWidth_zero ..
      simp only [State.granuleRequest, hs, engineReq, hread, reduceCtorEq, if_false]
      rfl

/-- Settles O37: success by `granuleStored_last`, the other two ends from `jobRetired`. -/
theorem mergeEnds : Obligations.MergeEnds := by
  refine fun s o j ok rdata h own => ⟨fun g hok ha hp hg => ?_, fun hok ha => ?_, fun ha => ?_⟩
  · have hmoves := (State.Moves.refl (s := s) (w := j.window) (b := j.dest)).modBank own fun r =>
      { r with merged := j.filled + 1, patterned := decide (j.source = none) }
    refine ⟨s.jobRetired.modBank j.window j.dest fun r =>
      { r with merged := j.filled + 1, patterned := decide (j.source = none) }, hmoves.bank.congr rfl, rfl, rfl, rfl, ?_⟩
    rw [hok, exec_engine_written h ha hp, State.granuleStored_last hg]
    rfl
  · refine ⟨s.jobRetired.offer .mergeError (some j.window) none j.pending.head?, rfl, rfl, rfl, rfl, ?_⟩
    rw [hok, exec_engine_error h ha]
    rfl
  · exact ⟨s.jobRetired, rfl, rfl, rfl, exec_engine_aborted h ha⟩

end Sys2Proof.Machine
end

section
/-! ### A full queue, and the commit of a message (R91, R93, R97, R98, R122) -/

namespace Sys2Proof.Machine

open Sys2Proof

set_option Elab.async false

section
variable {s : State} {w : WinId} {b : BankId}

/-! #### The full condition under FULL = REFUSE (R91, R93) -/

theorem State.noFreeBank_refuse (hm : (s.cfg w).mode = .queue) (hf : (s.cfg w).full = .refuse) :
    s.noFreeBank w = s.refuseFull w := by
  simp only [State.noFreeBank, hm, hf]

/-- A window controller after such a refusal: LASTREFUSED and REFUSALS (R93). -/
def WinCtl.refusedFull (x : WinCtl) : WinCtl :=
  { x with refusals := x.refusals + 1, prod := { x.prod with lastrefused := true } }

theorem State.refuseFull_eq (s : State) (w : WinId) : s.refuseFull w =
    ((s.modWin w WinCtl.refusedFull).offer .queueFull (some w) (some (s.cfg w).producer) none, .answered .refused []) := by
  rw [State.refuseFull, State.modProd, State.countRefusal, State.modWin_modWin]
  rfl

/-! #### The commit (R97, R98, R122) -/

/-- The fill length of a bank with covered granules is the highest of them plus one (R98). -/
theorem fillLength_of_covered {cover : List Nat} (h : cover ≠ []) :
    ∃ g ∈ cover, fillLength cover = g + 1 ∧ ∀ x ∈ cover, x ≤ g := by
  obtain ⟨g, gs, rfl⟩ := List.exists_cons_of_ne_nil h
  obtain ⟨hmem, hmax⟩ := List.max?_eq_some_iff.mp (List.max?_cons' (x := g) (xs := gs))
  exact ⟨gs.foldl max g, hmem, rfl, hmax⟩

/-- A QUEUE commit apart from its release event. -/
theorem State.queueCommit_moves (own : (s.recordOf w b).isSome = true) : s.Moves w b
    { s.win w with
      order := (s.win w).order ++ [b]
      commits := (s.win w).commits + 1
      prod := ProducerRec.committed s.time.stamp (s.win w).prod }
    { s.bank w b with
      state := .queued, seq := (s.win w).prod.nextseq, stamp := s.time.stamp
      length := fillLength (s.bank w b).cover, written := (s.bank w b).cover.length, deliveries := 0 }
    { s.queueCommit w b with ports := s.ports } :=
  (((State.Moves.refl.modBank own fun r =>
    { r with state := .queued, seq := (s.win w).prod.nextseq, stamp := s.time.stamp
             length := fillLength r.cover, written := r.cover.length, deliveries := 0 }).modWin
    fun x => { x with order := x.order ++ [b] }).modProd (ProducerRec.committed s.time.stamp)).modWin
    fun x => { x with commits := x.commits + 1 }

end

/-- Settles O14: the write finds no FREE bank, and `refuseFull_eq` says what is recorded of it. -/
theorem queueFullRefused : Obligations.QueueFullRefused := by
  intro s p e w h hk hm hb hn hf
  refine ⟨_, exec_producerWrite h hk, ?_⟩
  rw [State.producerWrite_full hb hn.firstFree, State.noFreeBank_refuse hm hf, State.refuseFull_eq, h.role]
  exact ⟨answersEntry_settle (s := s) (u := (s.modWin w WinCtl.refusedFull).offer .queueFull (some w) (some p) none) rfl ..,
    rfl, rfl, rfl⟩

/-- Settles O33: `queueCommit_moves`, then the release event; the fill length by `fillLength_of_covered`. -/
theorem queueCommitAppends : Obligations.QueueCommitAppends := by
  intro s w b own
  have hmoves := State.queueCommit_moves own
  refine ⟨fillLength (s.bank w b).cover, fun hnone => by rw [hnone]; rfl, fun g hg => ?_, fun hne => ?_,
    hmoves.bank.congr rfl, hmoves.windows, fun q => State.port_releaseEvent _ w _ q, hmoves.rest⟩
  · obtain ⟨top, -, hlen, hmax⟩ := fillLength_of_covered (List.ne_nil_of_mem hg)
    exact hlen ▸ Nat.lt_succ_of_le (hmax g hg)
  · obtain ⟨top, hmem, hlen, -⟩ := fillLength_of_covered hne
    exact ⟨top, hmem, hlen⟩

end Sys2Proof.Machine
end

section
/-! ### Reads served from a QUEUE claim (R101 to R103, R105, R106) -/

namespace Sys2Proof.Machine

open Sys2Proof

set_option Elab.async false

section
variable {s u : State} {p : PortId} {e : Entry} {w : WinId} {b : BankId}

/-! #### Which case of R101 fits -/

/-- R101 case 3. -/
theorem State.consumerRead_claimedHead (hm : (s.cfg w).mode = .queue) (hb : (s.claim w p).bank = some b)
    (hc : (s.claim w p).closing = false) (hd : (s.claim w p).deferred = false) :
    s.consumerRead w p e = s.serveQueue w p b e := by
  simp [State.consumerRead_queue hm, State.queueConsumerRead, hb, hc, hd, State.serve, hm]

/-- R101 case 5. -/
theorem State.consumerRead_opensHead {rest : List BankId} (hm : (s.cfg w).mode = .queue) (hb : (s.claim w p).bank = none)
    (ho : (s.win w).order = b :: rest) : s.consumerRead w p e = (s.openClaim w p b).serveQueue w p b e := by
  have hmode : ((s.openClaim w p b).cfg w).mode = .queue := by rw [State.openClaim, hm]; exact hm
  simp only [State.consumerRead_queue hm, State.queueConsumerRead, hb, ho, State.openAndServe, State.serve, hmode]

/-- A claim opens on the head of a QUEUE window (R102). -/
theorem State.Moves.openClaim_queue {x : WinCtl} {r : BankRec} (h : s.Moves w b x r u)
    (own : (s.recordOf w b).isSome = true) (hm : (s.cfg w).mode = .queue) (p : PortId) :
    s.Moves w b
      { x with claims := x.claims.set p.val (x.claims[p].opened b (u.bank w b).seq (u.armed (u.cfg w).claimlim)) }
      { r with deliveries := satSucc r.deliveries } (u.openClaim w p b) := by
  have hmode : (u.cfg w).mode = .queue := by rw [h.cfg, hm]
  simp only [State.openClaim, hmode]
  exact (h.modClaim p (Claim.opened b (u.bank w b).seq (u.armed (u.cfg w).claimlim))).modBank own
    fun r => { r with deliveries := satSucc r.deliveries }

/-! #### A read that leaves the claim open (R103, R105) -/

/-- How a served read is treated: answered when it has no memory part, else sent (R133). -/
def readTreatment (parts : List MemReq) (data : List Byte) : Treatment :=
  if parts = [] then .answered .okay data else .sent parts data none false

/-- What a read does to the window when it does not release its claim at once (R103, R105). -/
theorem State.serveQueue_stays {parts : List MemReq} {closes : Bool}
    (hp : parts = readParts p w (s.cfg w) e.serial e.txn (queueClaimSource (s.cfg w) b (s.bank w b).length))
    (hcl : closes = closesQueue (s.cfg w) (s.bank w b).length e.txn)
    (hstays : parts ≠ [] ∨ closes = false ∨ (s.claim w p).reads ≠ 0) :
    s.serveQueue w p b e =
      (s.modWin w (WinCtl.served p parts closes),
        readTreatment parts (initialData (s.cfg w) e.txn (queueClaimSource (s.cfg w) b (s.bank w b).length)
          (s.consumerDescriptor w p b))) := by
  cases parts with
  | nil =>
    cases closes with
    | false => simp [State.serveQueue, ← hp, ← hcl, readTreatment, State.modWin, WinCtl.served_nil]
    | true =>
      have hreads : (s.claim w p).reads ≠ 0 := by simpa using hstays
      simp [State.serveQueue, ← hp, ← hcl, hreads, readTreatment, State.setClosing, State.modClaim, State.modWin,
        WinCtl.served, WinCtl.modClaim, Claim.served, inFlight]
  | cons part parts =>
    cases closes <;>
      simp [State.serveQueue, ← hp, ← hcl, readTreatment, State.sendRead, State.opStarted, State.setClosing, State.modClaim,
        State.modWin, WinCtl.served, WinCtl.modClaim, Claim.served, inFlight]

/-- A read served from the claim of a state u, in which nothing but a controller and a bank differs from s. -/
theorem exec_served {x : WinCtl} {r : BankRec} {parts : List MemReq} {closes : Bool} {src : Nat → Source}
    (h : s.ConsumerDispatch p e w) (hk : e.txn.kind = .read) (hu : s.Moves w b x r u)
    (hread : s.consumerRead w p e =
      (u.modWin w (WinCtl.served p parts closes),
        readTreatment parts (initialData (s.cfg w) e.txn src (u.consumerDescriptor w p b)))) :
    ∃ t, exec (.dispatch p) s = .next t ∧
      s.ServesRead t p parts (initialData (s.cfg w) e.txn src (t.consumerDescriptor w p b)) ∧
      t.windows = s.windows.set w.val (x.served p parts closes) ∧ t.pool = u.pool ∧
      { t with ports := s.ports, windows := s.windows, pool := s.pool, mport := s.mport } = s := by
  refine ⟨_, exec_consumerRead h hk, ?_⟩
  rw [hread]
  set v := u.modWin w (WinCtl.served p parts closes)
  have hmoves : s.Moves w b (x.served p parts closes) r v := hu.modWin _
  have hdesc : v.consumerDescriptor w p b = u.consumerDescriptor w p b :=
    State.consumerDescriptor_congr rfl rfl (by simp [v, WinCtl.served, WinCtl.modClaim])
      (by simp [v, State.claim, WinCtl.served, WinCtl.modClaim, Claim.served])
      (by simp [v, State.claim, WinCtl.served, WinCtl.modClaim, Claim.served])
  have hrest : { v with ports := s.ports, windows := s.windows, pool := s.pool, mport := s.mport } = s :=
    congrArg (fun y : State => { y with ports := s.ports, mport := s.mport }) hmoves.rest
  rw [← hdesc, readTreatment]
  by_cases hnil : parts = []
  · rw [if_pos hnil]
    exact ⟨⟨fun _ => ⟨answersEntry_settle hmoves.ports .., hmoves.mport⟩, fun hne => (hne hnil).elim⟩, hmoves.windows, rfl,
      hrest⟩
  · rw [if_neg hnil]
    exact ⟨⟨fun h => (hnil h).elim, fun _ => sendsEntry_settle hmoves.ports hmoves.mport ..⟩, hmoves.windows, rfl, hrest⟩

/-! #### A read that releases its claim at once (R105, R106) -/

/-- A closing read without a memory part and with no read in flight (R105). -/
theorem State.serveQueue_releases
    (hp : readParts p w (s.cfg w) e.serial e.txn (queueClaimSource (s.cfg w) b (s.bank w b).length) = [])
    (hcl : closesQueue (s.cfg w) (s.bank w b).length e.txn = true) (hr : (s.claim w p).reads = 0) :
    s.serveQueue w p b e =
      (s.releaseQueue w p,
        .answered .okay (initialData (s.cfg w) e.txn (queueClaimSource (s.cfg w) b (s.bank w b).length)
          (s.consumerDescriptor w p b))) := by
  simp [State.serveQueue, hp, hcl, hr]

/-- A delivery apart from its release events, in a chain of changes to the window and its head bank (R106). -/
theorem State.Moves.releaseQueue {x : WinCtl} {r : BankRec} (h : s.Moves w b x r u)
    (own : (s.recordOf w b).isSome = true) {rest : List BankId} (ho : x.order = b :: rest) (p : PortId) :
    s.Moves w b { x with order := rest, claims := x.claims.set p.val x.claims[p].ended } { r with state := .free }
      { u.releaseQueue w p with ports := s.ports } := by
  have horder : (u.win w).order = b :: rest := by rw [h.win, ho]
  have hend := h.endQueueClaim own horder p
  have heq : { u.releaseQueue w p with ports := s.ports } = (u.dequeue w).modClaim w p Claim.ended := by
    rw [State.releaseQueue, State.dequeue, horder, ← h.ports]
    cases (u.win w).prod.bank <;> rfl
  rw [heq]
  exact hend

/-- Such a read of a state u, in which nothing but the controller and the head bank differs from s. -/
theorem exec_releasedAtOnce {x : WinCtl} {r : BankRec} {rest : List BankId} (data : Txn → List Byte)
    (h : s.ConsumerDispatch p e w) (hk : e.txn.kind = .read) (hu : s.Moves w b x r u)
    (own : (s.recordOf w b).isSome = true) (ho : x.order = b :: rest)
    (hread : s.consumerRead w p e = (u.releaseQueue w p, .answered .okay (data e.txn))) :
    ∃ t, exec (.dispatch p) s = .next t ∧
      t.port p =
        { s.port p with
          entries := modFirst Entry.isWaiting
            (fun e => { e with state := .answered, code := some .okay, holdwin := none, holddl := none, data := data e.txn })
            (s.port p).entries } ∧
      (∀ q, q ≠ p → t.port q =
        if q = (s.cfg w).producer ∧ x.prod.bank = none then (s.port q).afterRelease w else s.port q) ∧
      t.windows = s.windows.set w.val
        { x with order := rest, claims := x.claims.set p.val x.claims[p].ended } ∧
      s.ChangesBank t w b { r with state := .free } ∧
      { t with ports := s.ports, windows := s.windows, pool := s.pool } = s := by
  have hrelease := hu.releaseQueue own ho p
  have hport (q : PortId) : (u.releaseQueue w p).port q =
      if q = p ∨ (q = (s.cfg w).producer ∧ x.prod.bank = none) then (s.port q).afterRelease w else s.port q := by
    have hsame : u.port q = s.port q := by rw [State.port, hu.ports]; rfl
    rw [State.port_releaseQueue, hsame, hu.cfg, hu.win]
  refine ⟨_, exec_consumerRead h hk, ?_⟩
  rw [hread]
  have hans := answersEntry_settle (s := u.releaseQueue w p) (p := p) rfl .okay (data e.txn)
  refine ⟨?_, fun q hq => ?_, hrelease.windows, hrelease.bank.congr rfl, hrelease.rest⟩
  · rw [hans.port, hport, if_pos (.inl rfl), State.afterRelease_of_no_hold h.dispatches.noHold]
    refine congrArg (fun es => PortUnit.mk es (s.port p).nextSerial) (modFirst_congr h.dispatches.oldest ?_)
    rfl
  · rw [hans.others q hq, hport]
    simp only [hq, false_or]

end

/-- Settles O22: the read is served from the head, by a claim opened in the same event or by the one that stands, and the claim
stays open (`exec_served`) or is released at once (`exec_releasedAtOnce`). -/
theorem queueClaimReads : Obligations.QueueClaimReads := by
  intro s p e w b rest parts closes h hm hk ho own hp hcl
  have hopen := (State.Moves.refl (s := s)).openClaim_queue own hm p
  set u := s.openClaim w p b
  have hcfg : u.cfg w = s.cfg w := hopen.cfg w
  have hlen : (u.bank w b).length = (s.bank w b).length := (congrArg BankRec.length hopen.bank.bank :)
  have hclaim : u.claim w p = (s.claim w p).opened b (s.bank w b).seq (s.armed (s.cfg w).claimlim) := by
    rw [State.claim, hopen.win]
    exact Vector.getElem_set_self _
  have hreads : (u.claim w p).reads = (s.claim w p).reads := by rw [hclaim]; rfl
  refine ⟨fun hb hstays => ?_, fun hb hc hd hstays => ?_, fun hb hc hd hnil hcloses hr => ?_, fun hb hnil hcloses hr => ?_⟩
  · have hserve := State.serveQueue_stays (s := u) (b := b) (by rwa [hcfg, hlen]) (by rwa [hcfg, hlen])
      (hstays.imp_right .inl)
    rw [← State.consumerRead_opensHead hm hb ho, hcfg, hlen] at hserve
    obtain ⟨t, hexec, hserved, hwindows, hpool, hrest⟩ := exec_served h hk hopen hserve
    refine ⟨t, hexec, hserved, ?_, ?_, hrest⟩
    · rw [hwindows, WinCtl.served_set]
      simp only [Claim.served, Claim.opened, State.armed, State.due]
      rfl
    · simp only [← satSucc_eq]
      exact hopen.bank.congr hpool
  · have hread := (State.consumerRead_claimedHead hm hb hc hd).trans (State.serveQueue_stays hp hcl hstays)
    obtain ⟨t, hexec, hserved, hwindows, hpool, hrest⟩ := exec_served h hk (.refl (b := b)) hread
    have hopenClaim : (s.claim w p).served parts closes =
        { s.claim w p with reads := (s.claim w p).reads + inFlight parts, closing := closes } := by
      simp [Claim.served, hc]
    rw [← hopenClaim]
    exact ⟨t, hexec, hserved, hwindows, by rwa [← hpool] at hrest⟩
  · have hread := (State.consumerRead_claimedHead hm hb hc hd).trans
      (State.serveQueue_releases (hp.symm.trans hnil) (hcl.symm.trans hcloses) hr)
    exact exec_releasedAtOnce
      (fun x => initialData (s.cfg w) x (queueClaimSource (s.cfg w) b (s.bank w b).length) (s.consumerDescriptor w p b))
      h hk .refl own ho hread
  · have hserve := State.serveQueue_releases (s := u) (b := b) (by rw [hcfg, hlen]; exact hp.symm.trans hnil)
      (by rw [hcfg, hlen]; exact hcl.symm.trans hcloses) (hreads.trans hr)
    rw [← State.consumerRead_opensHead hm hb ho, hcfg, hlen] at hserve
    obtain ⟨t, hexec, hport, hothers, hwindows, hbank, hrest⟩ := exec_releasedAtOnce
      (fun x => initialData (s.cfg w) x (queueClaimSource (s.cfg w) b (s.bank w b).length) (u.consumerDescriptor w p b))
      h hk hopen own ho hserve
    refine ⟨t, _, hexec, hport, hothers, ?_, ?_, hrest⟩
    · rw [hwindows]
      simp [Claim.ended, Claim.opened, State.claim]
    · simp only [← satSucc_eq]
      exact hbank

end Sys2Proof.Machine
end

section
/-! ### The descriptors (R119 to R121, R123, R124) -/

namespace Sys2Proof.Machine

open Sys2Proof

set_option Elab.async false

section
variable {s : State} {w : WinId} {p : PortId} {b : BankId}

/-! #### The consumer descriptor of a claim -/

theorem State.consumerDescriptor_snapshot (hm : (s.cfg w).mode = .snapshot) : s.consumerDescriptor w p b =
    le16 (s.bank w b).seq ++ le16Nat (s.bank w b).length ++ le16Nat (s.bank w b).written
      ++ [1, 0, (s.claim w p).claimmissed,
          flagByte [false, (s.claim w p).claimexpired, decide (0 < (s.bank w b).merged), (s.bank w b).patterned]]
      ++ le32 (s.bank w b).stamp ++ [BitVec.ofNat 8 p.val, BitVec.ofNat 8 w.val] := by
  simp only [State.consumerDescriptor, State.claimView, hm]
  rfl

/-- A byte of flags has 0 above its last flag. -/
theorem flagByte_concat_false (flags : List Bool) : flagByte (flags ++ [false]) = flagByte flags := by
  rw [flagByte, List.foldr_append]
  rfl

/-- MERGED and PATTERNED are 0 in QUEUE (R121). -/
theorem State.consumerDescriptor_queue (hm : (s.cfg w).mode = .queue) : s.consumerDescriptor w p b =
    le16 (s.bank w b).seq ++ le16Nat (s.bank w b).length ++ le16Nat (s.bank w b).written
      ++ [BitVec.ofNat 8 (s.win w).order.length, (s.bank w b).deliveries, 0, flagByte [false, (s.claim w p).claimexpired]]
      ++ le32 (s.bank w b).stamp ++ [BitVec.ofNat 8 p.val, BitVec.ofNat 8 w.val] := by
  have hflags : flagByte [false, (s.claim w p).claimexpired, false, false] = flagByte [false, (s.claim w p).claimexpired] :=
    (flagByte_concat_false [false, _, false]).trans (flagByte_concat_false [false, _])
  simp only [State.consumerDescriptor, State.claimView, hm, consumerBytes, hflags]
  rfl

/-! #### The counts of the producer descriptor -/

theorem State.coveredCount_none (hb : (s.win w).prod.bank = none) : s.coveredCount w = 0 := by
  rw [State.coveredCount, hb]

theorem State.coveredCount_some (hb : (s.win w).prod.bank = some b) : s.coveredCount w = (s.bank w b).cover.length := by
  rw [State.coveredCount, hb]

theorem State.producerCode_none (hb : (s.win w).prod.bank = none) : s.producerCode w = 0 := by
  rw [State.producerCode, hb]

theorem State.producerCode_some (hb : (s.win w).prod.bank = some b) :
    s.producerCode w = (s.bank w b).state.producerCode := by
  rw [State.producerCode, hb]

/-- FREE counts each bank of the window once (R124). -/
theorem State.freeCount_eq_card (s : State) (w : WinId) : s.freeCount w =
    (Finset.univ.filter fun b : BankId => b.val < (s.cfg w).bankCount ∧ (s.bank w b).state = .free).card := by
  rw [State.freeCount, ← List.toFinset_card_of_nodup ((s.cfg w).bankIds_nodup.filter _)]
  congr 1
  ext b
  simp

theorem State.queuedCount_snapshot (hm : (s.cfg w).mode = .snapshot) :
    s.queuedCount w = if (s.currentBank w).isSome then 1 else 0 := by
  rw [State.queuedCount, hm]

theorem State.queuedCount_queue (hm : (s.cfg w).mode = .queue) : s.queuedCount w = (s.win w).order.length := by
  rw [State.queuedCount, hm]

end

/-- Settles O16: each descriptor by its mode, each count by the case of the producer bank or of the mode. -/
theorem descriptorLayouts : Obligations.DescriptorLayouts := by
  refine ⟨fun s w p b => State.consumerDescriptor_snapshot, fun s w p b => State.consumerDescriptor_queue,
    fun s w => ⟨rfl, rfl⟩, fun s w => ⟨fun hb => ⟨State.coveredCount_none hb, State.producerCode_none hb⟩,
      fun b hb => ⟨State.coveredCount_some hb, ?_⟩, s.freeCount_eq_card w,
      fun hm => ⟨fun hn => ?_, fun b hcur => ?_⟩, State.queuedCount_queue⟩⟩
  · rw [State.producerCode_some hb]
    exact ⟨congrArg BankState.producerCode, congrArg BankState.producerCode, congrArg BankState.producerCode,
      congrArg BankState.producerCode⟩
  · rw [State.queuedCount_snapshot hm, hn.currentBank]
    rfl
  · rw [State.queuedCount_snapshot hm, hcur.currentBank]
    rfl

end Sys2Proof.Machine
end

section
/-! ### The order of an accepted list (R126, R128)

Most of what changes an accepted list changes its entries one by one: a settled entry stays settled and a WAITING one stays WAITING,
and only a HELD one may become either. Such a change keeps the length of the list, its order, and the want of a HELD entry. -/

namespace Sys2Proof.Machine

open Sys2Proof

set_option Elab.async false

/-- An entry that is settled, or WAITING, stays so; a HELD one may become anything. -/
structure Entry.Advances (e f : Entry) : Prop where
  settled : e.isSettled = true → f.isSettled = true
  waiting : e.isWaiting = true → f.isWaiting = true

/-- The entries of an accepted list have advanced in their places. -/
abbrev EntriesAdvance (es fs : List Entry) : Prop := List.Forall₂ Entry.Advances es fs

theorem Entry.Advances.refl (e : Entry) : e.Advances e := ⟨id, id⟩

theorem Entry.Advances.trans {e f g : Entry} (h : e.Advances f) (k : f.Advances g) : e.Advances g :=
  ⟨k.settled ∘ h.settled, k.waiting ∘ h.waiting⟩

/-- A HELD entry may become anything. -/
theorem Entry.Advances.of_held {e f : Entry} (h : e.state = .held) : e.Advances f := by
  constructor <;> simp [Entry.isSettled, Entry.isWaiting, h]

/-- A settled entry that stays settled. -/
theorem Entry.Advances.of_settled {e f : Entry} (h : e.isSettled = true) (k : f.isSettled = true) : e.Advances f := by
  refine ⟨fun _ => k, fun hw => ?_⟩
  simp_all [Entry.isSettled, Entry.isWaiting]

/-- An entry is settled, HELD or WAITING. -/
theorem Entry.settled_or_held_or_waiting (e : Entry) : e.isSettled = true ∨ e.state = .held ∨ e.isWaiting = true := by
  cases h : e.state <;> simp [Entry.isSettled, Entry.isWaiting, h]

namespace EntriesAdvance

variable {es fs gs : List Entry}

theorem refl (es : List Entry) : EntriesAdvance es es := List.forall₂_same.mpr fun e _ => .refl e

theorem trans (h : EntriesAdvance es fs) (k : EntriesAdvance fs gs) : EntriesAdvance es gs := by
  induction h generalizing gs with
  | nil => exact k
  | cons hef _ ih =>
    cases k with
    | cons hfg hrest => exact .cons (hef.trans hfg) (ih hrest)

/-- Every entry changed alike. -/
theorem map (f : Entry → Entry) (hf : ∀ e : Entry, e.Advances (f e)) (es : List Entry) : EntriesAdvance es (es.map f) :=
  List.forall₂_map_right_iff.mpr (List.forall₂_same.mpr fun e _ => hf e)

/-- The first entry that meets a test changed. -/
theorem modFirst (test : Entry → Bool) (f : Entry → Entry) (hf : ∀ e : Entry, test e = true → e.Advances (f e))
    (es : List Entry) : EntriesAdvance es (modFirst test f es) := by
  induction es with
  | nil => exact .nil
  | cons e es ih =>
    unfold Machine.modFirst
    split
    · next h => exact .cons (hf e h) (refl es)
    · exact .cons (.refl e) ih

theorem allWaiting (h : EntriesAdvance es fs) (hw : es.all Entry.isWaiting = true) : fs.all Entry.isWaiting = true := by
  induction h with
  | nil => exact hw
  | cons hef _ ih =>
    simp only [List.all_cons, Bool.and_eq_true] at hw ⊢
    exact ⟨hef.waiting hw.1, ih hw.2⟩

/-- Where nothing is HELD, nothing becomes HELD. -/
theorem noHold (h : EntriesAdvance es fs) (hn : ∀ e ∈ es, e.state ≠ .held) : ∀ f ∈ fs, f.state ≠ .held := by
  induction h with
  | nil => exact hn
  | @cons e f _ _ hef _ ih =>
    have hf : f.state ≠ .held := by
      rcases e.settled_or_held_or_waiting with hs | hh | hw
      · have := hef.settled hs
        intro hf
        simp [Entry.isSettled, hf] at this
      · exact absurd hh (hn e (List.mem_cons_self ..))
      · have := hef.waiting hw
        intro hf
        simp [Entry.isWaiting, hf] at this
    exact List.forall_mem_cons.mpr ⟨hf, ih fun e he => hn e (List.mem_cons_of_mem _ he)⟩

end EntriesAdvance

/-! #### The lists in order -/

theorem Entry.not_settled_of_waiting {e : Entry} (h : e.isWaiting = true) : e.isSettled = false := by
  simp_all [Entry.isSettled, Entry.isWaiting]

theorem inAcceptedOrder_of_allWaiting {es : List Entry} (h : es.all Entry.isWaiting = true) : inAcceptedOrder es = true := by
  cases es with
  | nil => rfl
  | cons e es =>
    simp only [List.all_cons, Bool.and_eq_true] at h
    simp [inAcceptedOrder, Entry.not_settled_of_waiting h.1, h.2]

/-- One entry of any state before entries that WAIT. -/
theorem inAcceptedOrder_cons_of_allWaiting (e : Entry) {es : List Entry} (h : es.all Entry.isWaiting = true) :
    inAcceptedOrder (e :: es) = true := by
  unfold inAcceptedOrder
  split
  · exact inAcceptedOrder_of_allWaiting h
  · exact h

/-- Entries that advance in their places stay in order. -/
theorem EntriesAdvance.ordered {es fs : List Entry} (h : EntriesAdvance es fs) (ho : inAcceptedOrder es = true) :
    inAcceptedOrder fs = true := by
  induction h with
  | nil => rfl
  | @cons e f es fs hef hrest ih =>
    unfold inAcceptedOrder at ho
    split at ho
    · next hs => simp [inAcceptedOrder, hef.settled hs, ih ho]
    · exact inAcceptedOrder_cons_of_allWaiting f (EntriesAdvance.allWaiting hrest ho)

/-- The oldest WAITING entry may take any state where nothing is HELD: before it there are settled entries alone. -/
theorem inAcceptedOrder_modFirst_waiting {es : List Entry} (f : Entry → Entry) (ho : inAcceptedOrder es = true)
    (hn : ∀ e ∈ es, e.state ≠ .held) : inAcceptedOrder (modFirst Entry.isWaiting f es) = true := by
  induction es with
  | nil => rfl
  | cons e es ih =>
    obtain ⟨he, hes⟩ := List.forall_mem_cons.mp hn
    rcases e.settled_or_held_or_waiting with hs | hh | hw
    · have hnw : ¬ e.isWaiting = true := fun hw => by simp [Entry.not_settled_of_waiting hw] at hs
      rw [inAcceptedOrder, if_pos hs] at ho
      simp [modFirst, hnw, inAcceptedOrder, hs, ih ho hes]
    · exact absurd hh he
    · rw [inAcceptedOrder, if_neg (by simp [Entry.not_settled_of_waiting hw])] at ho
      rw [modFirst, if_pos hw]
      exact inAcceptedOrder_cons_of_allWaiting _ ho

/-- An entry that WAITS joins the tail (R127). -/
theorem inAcceptedOrder_append {es : List Entry} {e : Entry} (ho : inAcceptedOrder es = true) (hw : e.isWaiting = true) :
    inAcceptedOrder (es ++ [e]) = true := by
  induction es with
  | nil => exact inAcceptedOrder_cons_of_allWaiting e rfl
  | cons x es ih =>
    unfold inAcceptedOrder at ho
    split at ho
    · next hs => simp [inAcceptedOrder, hs, ih ho]
    · exact inAcceptedOrder_cons_of_allWaiting x (by simp [ho, hw])

/-- The oldest entry leaves (R140). -/
theorem inAcceptedOrder_tail {e : Entry} {es : List Entry} (ho : inAcceptedOrder (e :: es) = true) :
    inAcceptedOrder es = true := by
  unfold inAcceptedOrder at ho
  split at ho
  · exact ho
  · exact inAcceptedOrder_of_allWaiting ho

theorem length_modFirst {α : Type} (test : α → Bool) (f : α → α) (l : List α) : (modFirst test f l).length = l.length := by
  induction l with
  | nil => rfl
  | cons x l ih =>
    unfold modFirst
    split <;> simp [ih]

end Sys2Proof.Machine
end

section
/-! ### What the operations of a window do to the accepted lists

Outside a dispatch's own entry, the accepted lists change at release events, at the entry of a drain and at a hold deadline alone; at
each of them the entries advance in their places. -/

namespace Sys2Proof.Machine

open Sys2Proof

set_option Elab.async false

/-- The entries of every port have advanced in their places. -/
structure PortsAdvance (a b : Vector PortUnit 4) : Prop where
  entries : ∀ p : PortId, EntriesAdvance a[p].entries b[p].entries

theorem PortsAdvance.refl (a : Vector PortUnit 4) : PortsAdvance a a := ⟨fun _ => .refl _⟩

theorem PortsAdvance.trans {a b c : Vector PortUnit 4} (h : PortsAdvance a b) (k : PortsAdvance b c) : PortsAdvance a c :=
  ⟨fun p => (h.entries p).trans (k.entries p)⟩

section
variable {a : Vector PortUnit 4} {s : State}

/-! #### The ports -/

/-- The entries of one port advance. -/
theorem PortsAdvance.modEntries (h : PortsAdvance a s.ports) (p : PortId) (f : List Entry → List Entry)
    (hf : EntriesAdvance (s.port p).entries (f (s.port p).entries)) : PortsAdvance a (s.modEntries p f).ports := by
  refine h.trans ⟨fun q => ?_⟩
  change EntriesAdvance (s.port q).entries ((s.modEntries p f).port q).entries
  by_cases hq : q = p
  · subst hq
    rwa [State.port_modEntries_same]
  · rw [State.port_modEntries_ne s f hq]
    exact .refl _

theorem Entry.advances_release (w : WinId) (e : Entry) : e.Advances (e.release w) := by
  unfold Entry.release
  split
  · next h =>
    simp only [Entry.isHeldBy, Bool.and_eq_true, decide_eq_true_eq] at h
    exact .of_held h.1
  · exact .refl e

/-- A release event (R135). -/
theorem PortsAdvance.releaseEvent (h : PortsAdvance a s.ports) (w : WinId) (p : PortId) :
    PortsAdvance a (s.releaseEvent w p).ports :=
  h.modEntries p _ (.map _ (Entry.advances_release w) _)

/-! #### Sessions -/

theorem PortsAdvance.drop (h : PortsAdvance a s.ports) (w : WinId) (b : BankId) (cause : Option FaultKind) :
    PortsAdvance a (s.drop w b cause).ports := by
  cases cause <;> exact .releaseEvent h w _

theorem PortsAdvance.publish (h : PortsAdvance a s.ports) (w : WinId) (b : BankId) :
    PortsAdvance a (s.publish w b).ports := by
  have hsup : (s.supersede w).ports = s.ports := (congrArg State.ports (s.supersede_rest w) :)
  exact .releaseEvent (hsup ▸ h) w _

theorem PortsAdvance.commitDecision (h : PortsAdvance a s.ports) (w : WinId) (b : BankId) :
    PortsAdvance a (s.commitDecision w b).ports := by
  have hmerge : (s.beginMerge w b).ports = s.ports := State.appendJob_ports _ _
  unfold State.commitDecision State.snapshotDecision State.queueDecision
  dsimp only
  split
  · split_ifs
    · exact h.drop w b _
    · exact h.publish w b
    · split
      · exact h.drop w b _
      · exact hmerge ▸ h
  · split_ifs
    · exact h.drop w b _
    · exact .releaseEvent h w _

theorem PortsAdvance.writeToFilling (h : PortsAdvance a s.ports) (w : WinId) (p : PortId) (b : BankId) (e : Entry) :
    PortsAdvance a (s.writeToFilling w p b e).1.ports := by
  have htest : (s.testTrigger w b e.txn).ports = s.ports := by unfold State.testTrigger; split <;> rfl
  unfold State.writeToFilling State.overlayWrite
  dsimp only
  split_ifs
  · exact .commitDecision (s := (s.trigger w b).writeSteered w) h w b
  · exact h
  · exact h
  · exact htest ▸ h

theorem PortsAdvance.producerWrite (h : PortsAdvance a s.ports) (w : WinId) (p : PortId) (e : Entry) :
    PortsAdvance a (s.producerWrite w p e).1.ports := by
  unfold State.producerWrite
  split
  · split
    · exact h.writeToFilling w p _ e
    · exact h
  · split
    · next b _ => exact .writeToFilling (s := s.openSession w b) h w p b e
    · unfold State.noFreeBank
      split <;> exact h

theorem PortsAdvance.producerRead (h : PortsAdvance a s.ports) (w : WinId) (p : PortId) (e : Entry) :
    PortsAdvance a (s.producerRead w p e).1.ports := by
  unfold State.producerRead
  dsimp only
  split <;> exact h

/-! #### Claims -/

theorem PortsAdvance.releaseSnapshot (h : PortsAdvance a s.ports) (w : WinId) (p : PortId) :
    PortsAdvance a (s.releaseSnapshot w p).ports := by
  unfold State.releaseSnapshot
  split <;> exact .releaseEvent h w p

theorem PortsAdvance.releaseQueue (h : PortsAdvance a s.ports) (w : WinId) (p : PortId) :
    PortsAdvance a (s.releaseQueue w p).ports := by
  have hdeq : (s.dequeue w).ports = s.ports := by unfold State.dequeue; split <;> rfl
  have hport : PortsAdvance a (((s.dequeue w).modClaim w p Claim.ended).releaseEvent w p).ports := .releaseEvent (hdeq ▸ h) w p
  unfold State.releaseQueue
  split
  · exact .releaseEvent hport w _
  · exact hport

theorem PortsAdvance.releaseClaim (h : PortsAdvance a s.ports) (w : WinId) (p : PortId) :
    PortsAdvance a (s.releaseClaim w p).ports := by
  unfold State.releaseClaim
  split
  · exact h.releaseSnapshot w p
  · exact h.releaseQueue w p

theorem PortsAdvance.claimExpiry (h : PortsAdvance a s.ports) (w : WinId) (p : PortId) :
    PortsAdvance a (s.claimExpiry w p).ports := by
  unfold State.claimExpiry
  split
  · exact h.releaseSnapshot w p
  · exact h

theorem PortsAdvance.serve (h : PortsAdvance a s.ports) (w : WinId) (p : PortId) (b : BankId) (e : Entry) :
    PortsAdvance a (s.serve w p b e).1.ports := by
  have hclose : ∀ c : Bool, (if c then s.setClosing w p else s).ports = s.ports := fun c => by cases c <;> rfl
  unfold State.serve State.serveSnapshot State.serveQueue
  dsimp only
  split
  · split <;> exact hclose _ ▸ h
  · split
    · split_ifs
      · exact h.releaseQueue w p
      · exact h
      · exact h
    · exact hclose _ ▸ h

theorem PortsAdvance.openAndServe (h : PortsAdvance a s.ports) (w : WinId) (p : PortId) (b : BankId) (e : Entry) :
    PortsAdvance a (s.openAndServe w p b e).1.ports := by
  have hopen : (s.openClaim w p b).ports = s.ports := by unfold State.openClaim; split <;> rfl
  exact .serve (hopen ▸ h) w p b e

theorem PortsAdvance.emptyRead (h : PortsAdvance a s.ports) (w : WinId) (p : PortId) (e : Entry) :
    PortsAdvance a (s.emptyRead w p e).1.ports := by
  unfold State.emptyRead
  split
  · exact h
  · split <;> exact h

theorem PortsAdvance.restart (h : PortsAdvance a s.ports) (w : WinId) (p : PortId) (e : Entry) :
    PortsAdvance a (s.restart w p e).1.ports := by
  unfold State.restart
  dsimp only
  split
  · exact (h.releaseSnapshot w p).openAndServe w p _ e
  · exact (h.releaseSnapshot w p).emptyRead w p e

theorem PortsAdvance.consumerRead (h : PortsAdvance a s.ports) (w : WinId) (p : PortId) (e : Entry) :
    PortsAdvance a (s.consumerRead w p e).1.ports := by
  unfold State.consumerRead State.snapshotConsumerRead State.queueConsumerRead
  dsimp only
  split
  · split
    · split_ifs
      · exact h
      · exact h
      · exact h.restart w p e
      · exact h
      · exact h.serve w p _ e
    · split
      · exact h.emptyRead w p e
      · split_ifs
        · exact h
        · exact h.openAndServe w p _ e
  · split
    · split_ifs
      · exact h
      · exact h
      · exact h.serve w p _ e
    · split
      · exact h.emptyRead w p e
      · exact h.openAndServe w p _ e

theorem PortsAdvance.consumerWrite (h : PortsAdvance a s.ports) (w : WinId) (p : PortId) (e : Entry) :
    PortsAdvance a (s.consumerWrite w p e).1.ports := by
  unfold State.consumerWrite
  dsimp only
  split
  · split
    · exact h
    · split_ifs
      · exact h
      · exact h
      · exact h.releaseClaim w p
      · exact h
  · exact h

/-- What a dispatch does before the port records the treatment (R130 to R133). -/
theorem PortsAdvance.treat (h : PortsAdvance a s.ports) (p : PortId) (e : Entry) : PortsAdvance a (s.treat p e).1.ports := by
  unfold State.treat
  split
  case h_6 w _ =>
    unfold State.windowAccess
    split_ifs
    · split
      · exact h.producerWrite w p e
      · exact h.producerRead w p e
    · split
      · exact h.consumerWrite w p e
      · exact h.consumerRead w p e
  all_goals exact h

/-! #### Drains -/

theorem EntriesAdvance.refuseHeld (w : WinId) (es : List Entry) : EntriesAdvance es (refuseHeld w es) := by
  refine EntriesAdvance.map _ (fun e : Entry => ?_) es
  split
  · next h =>
    simp only [Entry.isHeldBy, Bool.and_eq_true, decide_eq_true_eq] at h
    exact .of_held h.1
  · exact .refl e

theorem State.drainCheck_ports (s : State) (w : WinId) : (s.drainCheck w).ports = s.ports := by
  unfold State.drainCheck
  split
  · exact s.drainComplete_ports w
  · rfl

/-- The entry to a draining state refuses what the window holds (R19). -/
theorem PortsAdvance.drainEntry (h : PortsAdvance a s.ports) (w : WinId) (target : Life) :
    PortsAdvance a (s.drainEntry w target).ports := by
  have hbegun : PortsAdvance s.ports (s.drainBegun w target).ports := by
    refine ⟨fun p => ?_⟩
    change EntriesAdvance (s.port p).entries ((s.drainBegun w target).port p).entries
    rw [State.drainBegun_port]
    exact EntriesAdvance.refuseHeld w _
  have hcheck : (s.drainEntry w target).ports = (s.drainBegun w target).ports := State.drainCheck_ports _ w
  exact hcheck ▸ h.trans hbegun

/-! #### Completions -/

/-- The end of an operation changes no port (R13, R21). -/
theorem PortsAdvance.opDone (h : PortsAdvance a s.ports) (w : WinId) : PortsAdvance a (s.opDone w).ports :=
  (State.drainCheck_ports _ w).symm ▸ h

theorem PortsAdvance.afterWrite (h : PortsAdvance a s.ports) (w : WinId) (b : BankId) (e : Entry) :
    PortsAdvance a (s.afterWrite w b e).ports := by
  unfold State.afterWrite
  dsimp only
  split
  · split
    · exact h.commitDecision w b
    · exact h
  · split
    · exact h.drop w b _
    · exact h
  all_goals exact h

theorem PortsAdvance.claimCheck (h : PortsAdvance a s.ports) (w : WinId) (p : PortId) :
    PortsAdvance a (s.claimCheck w p).ports := by
  unfold State.claimCheck
  dsimp only
  split_ifs
  · exact h.releaseClaim w p
  · exact h.claimExpiry w p
  · exact h
  · exact h

/-- The window controller's part of a completion (R20, R138). -/
theorem PortsAdvance.windowDone (h : PortsAdvance a s.ports) (w : WinId) (p : PortId) (e : Entry) :
    PortsAdvance a (s.windowDone w p e).ports := by
  have hwrite : ∀ u : State, (u.writeError w e).ports = u.ports := fun u => (congrArg State.ports (u.writeError_eq w e) :)
  have hread : ∀ u : State, (u.readError w p e).ports = u.ports := fun u => (congrArg State.ports (u.readError_eq w p e) :)
  unfold State.windowDone State.writeDone State.producerReadDone State.consumerReadDone
  dsimp only
  split
  · split
    · exact .afterWrite (s := State.opEnded _ w) ((hwrite _).symm ▸ h) w _ e
    · exact .opDone ((hwrite _).symm ▸ h) w
  · exact h.opDone w
  · split
    · exact .opDone ((hread _).symm ▸ h) w
    · split
      · exact .claimCheck (s := State.opEnded _ w) ((hread _).symm ▸ h) w p
      · exact .opDone ((hread _).symm ▸ h) w

theorem Entry.advances_partDone {e : Entry} (h : e.isSettled = true) (o : Issue) (ok : Bool) (rdata : Burst) :
    e.Advances (e.partDone o ok rdata) := by
  refine .of_settled h ?_
  unfold Entry.partDone
  dsimp only
  split
  · rfl
  · exact h

/-- A request refers to a DISPATCHED entry. -/
theorem Entry.settled_of_isRef {e : Entry} {r : Ref} (h : e.isRef r = true) : e.isSettled = true := by
  unfold Entry.isRef at h
  split at h
  · simp_all [Entry.isSettled]
  · cases h

/-- A port's completion (R138). -/
theorem PortsAdvance.portCompletion (h : PortsAdvance a s.ports) (p : PortId) (o : Issue) (ok : Bool) (rdata : Burst) :
    PortsAdvance a (s.portCompletion p o ok rdata).ports := by
  have hport := h.modEntries p _
    (.modFirst (Entry.isRef o.ref) (Entry.partDone o ok rdata)
      (fun e he => Entry.advances_partDone (Entry.settled_of_isRef he) ..) _)
  unfold State.portCompletion
  split
  · exact h
  · dsimp only
    split
    · split
      · exact hport.windowDone _ p _
      · exact hport
    · exact hport

theorem PortsAdvance.startHead (h : PortsAdvance a s.ports) : PortsAdvance a s.startHead.ports :=
  s.startHead_ports.symm ▸ h

theorem PortsAdvance.mergeSuccess (h : PortsAdvance a s.ports) (j : Job) : PortsAdvance a (s.mergeSuccess j).ports :=
  .publish (s := s.modBank _ _ _) h _ _

theorem PortsAdvance.mergeFailure (h : PortsAdvance a s.ports) (j : Job) : PortsAdvance a (s.mergeFailure j).ports :=
  .drop (s := s.offer _ _ _ _) h _ _ none

/-- The merge engine's part of a completion (R74 to R79, R82). -/
theorem PortsAdvance.engineCompletion (h : PortsAdvance a s.ports) (w : WinId) (ok : Bool) (rdata : Burst) :
    PortsAdvance a (s.engineCompletion w ok rdata).ports := by
  have hjobs : ∀ f, PortsAdvance a (s.modJobs f).ports := fun _ => h
  unfold State.engineCompletion
  split
  · exact h.opDone w
  · next j rest _ =>
    split_ifs
    · exact ((hjobs _).opDone w).startHead
    · exact (((hjobs _).mergeFailure j).opDone w).startHead
    · split
      · exact .opDone (s := s.granuleFetched j rest rdata) h w
      · unfold State.granuleStored
        dsimp only
        split_ifs
        · exact (((hjobs _).mergeSuccess _).opDone w).startHead
        · exact ((hjobs _).startHead).opDone w
      · exact h.opDone w

theorem PortsAdvance.route (h : PortsAdvance a s.ports) (o : Issue) (ok : Bool) (rdata : Burst) :
    PortsAdvance a (s.route o ok rdata).ports := by
  unfold State.route
  split
  · exact h.portCompletion _ o ok rdata
  · split
    · exact h.engineCompletion _ ok rdata
    · exact h

/-! #### Deadlines -/

/-- A hold deadline answers the HELD entry (R136). -/
theorem PortsAdvance.holdExpiry (h : PortsAdvance a s.ports) (p : PortId) (w : WinId) (e : Entry) :
    PortsAdvance a (s.holdExpiry p w e).ports := by
  have hport := h.modEntries p _
    (.modFirst Entry.isHeld (Entry.answer .refused []) (fun e he => .of_held (of_decide_eq_true he)) _)
  unfold State.holdExpiry
  dsimp only
  split <;> exact hport

/-- The taking of a deadline (R159). -/
theorem PortsAdvance.takeDeadline (h : PortsAdvance a s.ports) (d : Deadline) : PortsAdvance a (s.takeDeadline d).ports := by
  unfold State.takeDeadline State.takeOpen State.takeClaim State.takeHold
  split
  · split
    · unfold State.openExpiry
      split
      · exact h
      · dsimp only
        split <;> exact h
    · exact h
  · split
    · unfold State.claimDeadlineTaken
      split
      · exact h.claimExpiry _ _
      · exact h
    · exact h
  · split
    · exact h
    · split
      · split
        · exact h.holdExpiry _ _ _
        · exact h
      · exact h

/-- A chain of operations at each of which the entries advance. -/
theorem PortsAdvance.foldl {α : Type} (f : State → α → State) (hf : ∀ (s : State) x, PortsAdvance s.ports (f s x).ports)
    (h : PortsAdvance a s.ports) (l : List α) : PortsAdvance a (l.foldl f s).ports := by
  induction l generalizing s with
  | nil => exact h
  | cons x l ih => exact ih (h.trans (hf s x))

theorem PortsAdvance.increment (h : PortsAdvance a s.ports) : PortsAdvance a s.increment.ports :=
  PortsAdvance.foldl (s := { s with time := s.time.tick }) _ (fun _ d => (refl _).takeDeadline d) h _

/-! #### Requests of the management link -/

theorem PortsAdvance.request {t : State} (h : PortsAdvance a s.ports) (hr : s.Request t) : PortsAdvance a t.ports := by
  cases hr with
  | enable w off valid =>
    refine PortsAdvance.foldl (s := s) _ (fun t b => ?_) h (s.cfg w).bankIds
    exact PortsAdvance.refl t.ports
  | drain w target op active draining => exact h.drainEntry w target
  | restart => exact PortsAdvance.foldl (s := s) _ (fun t w => (refl t.ports).drainEntry w .restarting) h s.activeWindows
  | _ => exact h

end

end Sys2Proof.Machine
end

section
/-! ### The limits and the order of the lists along a step (R126, R128, R146, R166) -/

namespace Sys2Proof.Machine

open Sys2Proof

set_option Elab.async false

/-! #### The outstanding issues and the fault queue -/

/-- From state s to state t no issue joins or leaves the outstanding-issue list, and the fault queue stays within its limit. -/
structure State.KeepsQueues (s t : State) : Prop where
  issued : t.mport.outstanding = s.mport.outstanding
  faults : s.faults.queue.length ≤ Config.faultMax → t.faults.queue.length ≤ Config.faultMax

namespace State.KeepsQueues

variable {s t u : State}

theorem refl (s : State) : s.KeepsQueues s := ⟨rfl, id⟩

theorem trans (h : s.KeepsQueues t) (k : t.KeepsQueues u) : s.KeepsQueues u :=
  ⟨k.issued.trans h.issued, k.faults ∘ h.faults⟩

/-- Two states with the same outstanding issues and the same fault queue. -/
theorem of_eq (hm : t.mport.outstanding = s.mport.outstanding) (hf : t.faults.queue = s.faults.queue) : s.KeepsQueues t :=
  ⟨hm, fun h => hf ▸ h⟩

/-- An offer keeps the limit (R168). -/
theorem offer (s : State) (k : FaultKind) (w : Option WinId) (p : Option PortId) (l : Option Nat) :
    s.KeepsQueues (s.offer k w p l) := by
  refine ⟨rfl, fun h => ?_⟩
  unfold State.offer
  dsimp only
  split
  · exact FaultUnit.take_length _ _ h
  · exact h

/-- A chain of changes of one window. -/
theorem of_acts {w : WinId} (h : s.Acts w t) : s.KeepsQueues t := by
  induction h with
  | refl => exact refl s
  | offer _ k x p l ih => exact ih.trans (offer _ k x p l)
  | modWin _ _ _ _ ih | modBank _ _ _ _ ih | modEntries _ _ _ ih | handOver _ _ _ ih | engine _ _ _ ih =>
    exact ih.trans (of_eq rfl rfl)

theorem drainCheck (s : State) (w : WinId) : s.KeepsQueues (s.drainCheck w) := by
  unfold State.drainCheck
  split
  · rw [State.drainComplete_eq]
    exact of_eq rfl rfl
  · exact refl s

theorem opDone (s : State) (w : WinId) : s.KeepsQueues (s.opDone w) :=
  (of_acts (State.Acts.refl.opEnded (w := w))).trans (drainCheck _ w)

theorem drainEntry (s : State) (w : WinId) (target : Life) : s.KeepsQueues (s.drainEntry w target) := by
  have hbegun : s.KeepsQueues (s.drainBegun w target) := by
    rw [State.drainBegun_eq]
    exact of_eq rfl rfl
  exact hbegun.trans (drainCheck _ w)

/-- A chain of operations each of which keeps the queues keeps them. -/
theorem foldl {α : Type} (f : State → α → State) (h : ∀ (s : State) a, s.KeepsQueues (f s a)) (l : List α) (s : State) :
    s.KeepsQueues (l.foldl f s) := by
  induction l generalizing s with
  | nil => exact refl s
  | cons a l ih => exact (h s a).trans (ih _)

theorem takeDeadline (s : State) (d : Deadline) : s.KeepsQueues (s.takeDeadline d) :=
  have ⟨_, h⟩ := State.Acts.exists_takeDeadline s d
  of_acts h

theorem increment (s : State) : s.KeepsQueues s.increment :=
  (of_eq rfl rfl : s.KeepsQueues { s with time := s.time.tick }).trans (foldl State.takeDeadline takeDeadline _ _)

theorem startHead (s : State) : s.KeepsQueues s.startHead :=
  have ⟨_, h⟩ := State.Acts.exists_startHead s
  of_acts h

theorem windowDone (s : State) (w : WinId) (p : PortId) (e : Entry) : s.KeepsQueues (s.windowDone w p e) := by
  rcases State.Acts.windowDone s w p e with h | ⟨u, h, hu⟩
  · exact of_acts h
  · rw [hu]
    exact (of_acts h).trans (opDone u w)

theorem engineCompletion (s : State) (w : WinId) (ok : Bool) (rdata : Burst) :
    s.KeepsQueues (s.engineCompletion w ok rdata) := by
  have hjobs : ∀ f, s.KeepsQueues (s.modJobs f) := fun _ => of_eq rfl rfl
  unfold State.engineCompletion
  split
  · exact opDone s w
  · next j rest hj =>
    split_ifs
    · exact ((hjobs _).trans (opDone _ w)).trans (startHead _)
    · exact (((hjobs _).trans (of_acts (State.Acts.refl.mergeFailure j rfl))).trans (opDone _ w)).trans (startHead _)
    · split
      · exact (of_acts (State.Acts.refl.granuleFetched hj rfl rdata)).trans (opDone _ w)
      · unfold State.granuleStored
        dsimp only
        split
        · exact (((hjobs _).trans (of_acts (State.Acts.refl.mergeSuccess _ rfl))).trans (opDone _ w)).trans (startHead _)
        · exact ((hjobs _).trans (startHead _)).trans (opDone _ w)
      · exact opDone s w

theorem route (s : State) (o : Issue) (ok : Bool) (rdata : Burst) : s.KeepsQueues (s.route o ok rdata) := by
  have hport : ∀ p f, s.KeepsQueues (s.modEntries p f) := fun _ _ => of_eq rfl rfl
  unfold State.route
  split
  · unfold State.portCompletion
    split
    · exact refl s
    · dsimp only
      split
      · split
        · exact (hport _ _).trans (windowDone _ _ _ _)
        · exact hport _ _
      · exact hport _ _
  · split
    · exact engineCompletion s _ ok rdata
    · exact refl s

theorem request (h : s.Request t) : s.KeepsQueues t := by
  cases h with
  | enable w off valid =>
    have htake : s.KeepsQueues (s.takeRecords w) := foldl (fun s b => s.takeRecord w b) (fun _ _ => of_eq rfl rfl) _ s
    exact htake.trans (of_eq rfl rfl)
  | drain w target op active draining => exact (drainEntry s w target).trans (of_eq rfl rfl)
  | restart =>
    have hfold := foldl (fun s w => s.drainEntry w .restarting) (fun s w => drainEntry s w .restarting) s.activeWindows s
    exact hfold.trans (of_eq rfl rfl)
  | pop x rest queue =>
    refine ⟨rfl, fun h => ?_⟩
    rw [queue] at h
    exact (Nat.le_succ _).trans h
  | clearFaults => exact ⟨rfl, fun _ => Nat.zero_le _⟩
  | _ => exact of_eq rfl rfl

end State.KeepsQueues

/-! #### The accepted lists -/

theorem PortsAdvance.length {s t : State} (h : PortsAdvance s.ports t.ports) (p : PortId) :
    (t.port p).entries.length = (s.port p).entries.length :=
  (h.entries p).length_eq.symm

theorem PortsAdvance.portsOrdered {s t : State} (h : PortsAdvance s.ports t.ports) (hs : s.PortsOrdered) : t.PortsOrdered :=
  fun p => EntriesAdvance.ordered (h.entries p) (hs p)

/-- Where the ports advance and the queues are kept the limits are kept. -/
theorem State.WithinLimits.of_keeps {s t : State} (hs : s.WithinLimits) (hp : PortsAdvance s.ports t.ports)
    (hq : s.KeepsQueues t) : t.WithinLimits where
  accepted p := (hp.length p).trans_le (hs.accepted p)
  outstanding := hq.issued ▸ hs.outstanding
  faults := hq.faults hs.faults

/-- Of the ports, the record of a treatment changes the oldest WAITING entry of one alone (R133, R134). -/
theorem State.settle_ports (s : State) (p : PortId) (x : Treatment) :
    ∃ f, (s.settle p x).ports = (s.modEntries p (modFirst Entry.isWaiting f)).ports := by
  cases x <;> exact ⟨_, rfl⟩

/-- The ports after a dispatch: the entries have advanced, and the port's oldest WAITING one has been treated. -/
theorem State.exists_dispatched_ports (s : State) (p : PortId) (e : Entry) :
    ∃ (u : State) (f : Entry → Entry), PortsAdvance s.ports u.ports ∧
      ((s.treat p e).1.settle p (s.treat p e).2).ports = (u.modEntries p (modFirst Entry.isWaiting f)).ports := by
  obtain ⟨f, hf⟩ := (s.treat p e).1.settle_ports p (s.treat p e).2
  exact ⟨(s.treat p e).1, f, (PortsAdvance.refl s.ports).treat p e, hf⟩

/-- A port that dispatches holds no entry (R128). -/
theorem State.noHold_of_dispatchable {s : State} {p : PortId} {e : Entry} (h : s.dispatchable p = some e) :
    ∀ x ∈ (s.port p).entries, x.state ≠ .held := by
  unfold State.dispatchable at h
  split at h
  · next hc =>
    simp only [Bool.and_eq_true, Option.isNone_iff_eq_none, State.heldEntry, List.find?_eq_none] at hc
    exact fun x hx hh => hc.2 x hx (decide_eq_true hh)
  · cases h

theorem State.port_congr {s t : State} (h : t.ports = s.ports) (p : PortId) : t.port p = s.port p := by
  rw [State.port, h, State.port]

/-- What holds of every port's list, and of one port's list changed, holds of every list after that change. -/
theorem State.entries_modEntries {P : List Entry → Prop} (s : State) (p : PortId) (f : List Entry → List Entry)
    (hp : P (f (s.port p).entries)) (hq : ∀ q, P (s.port q).entries) (q : PortId) :
    P ((s.modEntries p f).port q).entries := by
  by_cases h : q = p
  · subst h
    rwa [State.port_modEntries_same]
  · rw [State.port_modEntries_ne s f h]
    exact hq q

/-- A frame's request is one between two changes of the answer, which no list reads. -/
theorem State.FrameEvent.keeps {s t : State} (h : s.FrameEvent t) : PortsAdvance s.ports t.ports ∧ s.KeepsQueues t := by
  obtain ⟨a, x, o, u, a', x', o', hr⟩ := h
  have hports : PortsAdvance s.ports u.ports := .request (s := s.withAnswer a x o) (.refl _) hr
  have hqueues : s.KeepsQueues u := (KeepsQueues.of_eq rfl rfl : s.KeepsQueues (s.withAnswer a x o)).trans (.request hr)
  exact ⟨hports, hqueues.trans (.of_eq rfl rfl)⟩

/-! #### The events -/

/-- ACCEPT as a change of the port's list; the serial of the next entry is no part of it (R127). -/
theorem State.entries_accept (s : State) (p : PortId) (x : Txn) (q : PortId) :
    (State.port { s with ports := s.ports.set p.val (s.ports[p].accept x) } q).entries =
      ((s.modEntries p fun es => es ++ [Entry.accepted (s.port p).nextSerial x]).port q).entries := by
  by_cases h : q = p
  · subst h
    simp [State.port, State.modEntries, PortUnit.accept]
  · rw [State.port_modEntries_ne s _ h]
    exact congrArg PortUnit.entries (vector_set_get_fin_ne s.ports _ h)

theorem State.Event.withinLimits {s t : State} (h : s.Event t) (hs : s.WithinLimits) : t.WithinLimits := by
  cases h with
  | unchanged => exact hs
  | fall =>
    refine ⟨fun p => ?_, Nat.zero_le _, hs.faults⟩
    simp [State.port, PortUnit.reset]
  | release csnLow low => exact ⟨safeAtReset.1.limits.accepted, Nat.zero_le _, Nat.zero_le _⟩
  | accept p x accepts =>
    refine ⟨fun q => ?_, hs.outstanding, hs.faults⟩
    rw [State.entries_accept]
    refine State.entries_modEntries (P := fun es => es.length ≤ Config.acceptedMax) s p _ ?_ hs.accepted q
    unfold State.accepts at accepts
    simp only [Bool.and_eq_true, decide_eq_true_eq] at accepts
    rw [List.length_append]
    exact accepts.2
  | dispatch p e dispatchable =>
    obtain ⟨w, hw⟩ := State.Acts.exists_treat s p e
    have hqueues := KeepsQueues.of_acts (hw.settle p (s.treat p e).2)
    obtain ⟨u, f, hu, hports⟩ := s.exists_dispatched_ports p e
    refine ⟨fun q => ?_, hqueues.issued ▸ hs.outstanding, hqueues.faults hs.faults⟩
    have hlen : ∀ q, (u.port q).entries.length ≤ Config.acceptedMax := fun q => (hu.length q).trans_le (hs.accepted q)
    rw [State.port_congr hports]
    exact State.entries_modEntries (P := fun es => es.length ≤ Config.acceptedMax) u p _
      ((length_modFirst _ f _).trans_le (hlen p)) hlen q
  | respond p e rest front answered x =>
    refine ⟨State.entries_modEntries (P := fun es => es.length ≤ Config.acceptedMax) s p (fun _ => rest) ?_
      hs.accepted, hs.outstanding, hs.faults⟩
    have hfront : (e :: rest).length ≤ Config.acceptedMax := front ▸ hs.accepted p
    exact (Nat.le_succ _).trans hfront
  | grant r room =>
    unfold State.grantTo
    split
    · exact hs
    · refine ⟨hs.accepted, ?_, hs.faults⟩
      simp only [List.length_append]
      exact room
  | complete o ok rdata oldest =>
    have hqueues := KeepsQueues.route s.issueRetired o ok rdata
    refine ⟨fun p => ?_, ?_, hqueues.faults hs.faults⟩
    · exact (PortsAdvance.length (s := s.issueRetired) ((PortsAdvance.refl _).route o ok rdata) p).trans_le (hs.accepted p)
    · rw [hqueues.issued]
      exact List.length_tail.trans_le ((Nat.sub_le _ 1).trans hs.outstanding)
  | increment => exact hs.of_keeps (PortsAdvance.refl _).increment (.increment s)
  | deadline d => exact hs.of_keeps ((PortsAdvance.refl _).takeDeadline d) (.takeDeadline s d)
  | frame t hf =>
    obtain ⟨hports, hqueues⟩ := hf.keeps
    exact hs.of_keeps hports hqueues

theorem State.Event.portsOrdered {s t : State} (h : s.Event t) (hs : s.PortsOrdered) : t.PortsOrdered := by
  cases h with
  | unchanged => exact hs
  | fall =>
    intro p
    simp [State.port, PortUnit.reset, inAcceptedOrder]
  | release csnLow low => exact safeAtReset.1.ordered
  | accept p x accepts =>
    intro q
    rw [State.entries_accept]
    exact State.entries_modEntries (P := fun es => inAcceptedOrder es = true) s p _ (inAcceptedOrder_append (hs p) rfl)
      hs q
  | dispatch p e dispatchable =>
    obtain ⟨u, f, hu, hports⟩ := s.exists_dispatched_ports p e
    have hordered := hu.portsOrdered hs
    have hnone : ∀ x ∈ (u.port p).entries, x.state ≠ .held :=
      EntriesAdvance.noHold (hu.entries p) (State.noHold_of_dispatchable dispatchable)
    intro q
    rw [State.port_congr hports]
    exact State.entries_modEntries (P := fun es => inAcceptedOrder es = true) u p _
      (inAcceptedOrder_modFirst_waiting f (hordered p) hnone) hordered q
  | respond p e rest front answered x =>
    have hfront : inAcceptedOrder (e :: rest) = true := front ▸ hs p
    exact State.entries_modEntries (P := fun es => inAcceptedOrder es = true) s p (fun _ => rest)
      (inAcceptedOrder_tail hfront) hs
  | grant r room =>
    unfold State.grantTo
    split <;> exact hs
  | complete o ok rdata oldest => exact PortsAdvance.portsOrdered (s := s) (.route (s := s.issueRetired) (.refl _) o ok rdata) hs
  | increment => exact (PortsAdvance.refl s.ports).increment.portsOrdered hs
  | deadline d => exact ((PortsAdvance.refl s.ports).takeDeadline d).portsOrdered hs
  | frame t hf =>
    obtain ⟨hports, _⟩ := hf.keeps
    exact hports.portsOrdered hs

/-- Settles O56: an event keeps the limits by `KeepsQueues` and the lengths, and the order because entries advance in their places,
the oldest WAITING one of a port without a hold apart. -/
theorem listsKept : Obligations.ListsKept := by
  refine ⟨fun s t hs h => ?_, fun s t hs h => ?_⟩
  · obtain ⟨rest, hev⟩ | rfl | ⟨_, rfl⟩ | rfl := step_event h
    · exact hev.withinLimits ⟨hs.accepted, hs.outstanding, hs.faults⟩
    · exact State.Event.increment.withinLimits hs
    · exact ⟨hs.accepted, hs.outstanding, hs.faults⟩
    · exact hs
  · obtain ⟨rest, hev⟩ | rfl | ⟨_, rfl⟩ | rfl := step_event h
    · exact hev.portsOrdered hs
    · exact State.Event.increment.portsOrdered hs
    · exact hs
    · exact hs

end Sys2Proof.Machine
end

section
/-! ### Acceptance and the decoder's refusals (R127 to R132, R144) -/

namespace Sys2Proof.Machine

open Sys2Proof

set_option Elab.async false

/-! #### Acceptance and what a port may dispatch (R127, R128) -/

theorem exec_accept_of_room {s : State} {p : PortId} (x : Txn) (hr : s.rstn = true) (h : (s.port p).entries.length < 8) :
    exec (.accept p x) s = .next { s with ports := s.ports.set p.val (s.ports[p].accept x) } := by
  have haccepts : s.accepts p = true := by simp [State.accepts, hr, Config.acceptedMax, h]
  simp only [exec, execAccept, if_pos haccepts]

theorem exec_accept_of_full {s : State} {p : PortId} (x : Txn) (h : 8 ≤ (s.port p).entries.length) :
    exec (.accept p x) s = .next s := by
  have haccepts : ¬ s.accepts p = true := by simp [State.accepts, Config.acceptedMax, Nat.not_lt.mpr h]
  simp only [exec, execAccept, if_neg haccepts]

theorem exec_dispatch_of_none {s : State} {p : PortId} (h : s.dispatchable p = none) : exec (.dispatch p) s = .next s := by
  simp only [exec, execDispatch, h]

/-- A port that holds an entry dispatches nothing (R128). -/
theorem State.dispatchable_of_held {s : State} {p : PortId} {e : Entry} (he : e ∈ (s.port p).entries) (hh : e.state = .held) :
    s.dispatchable p = none := by
  have hheld : (s.heldEntry p).isSome = true := List.find?_isSome.mpr ⟨e, he, decide_eq_true hh⟩
  obtain ⟨x, hx⟩ := Option.isSome_iff_exists.mp hheld
  simp [State.dispatchable, hx]

theorem State.dispatchable_of_noneWaiting {s : State} {p : PortId} (h : ∀ e ∈ (s.port p).entries, e.state ≠ .waiting) :
    s.dispatchable p = none := by
  have hfind : (s.port p).entries.find? Entry.isWaiting = none :=
    List.find?_eq_none.mpr fun e he => by simp [Entry.isWaiting, h e he]
  simp [State.dispatchable, hfind]

/-- Settles O6: by the cases of acceptance and of `State.dispatchable`. -/
theorem acceptAppends : Obligations.AcceptAppends := by
  refine ⟨fun s p x hr h => ⟨_, exec_accept_of_room x hr h, ?_, fun q hq => ?_, rfl⟩, fun s p x h => exec_accept_of_full x h,
    fun s p e he hh => exec_dispatch_of_none (State.dispatchable_of_held he hh),
    fun s p h => exec_dispatch_of_none (State.dispatchable_of_noneWaiting h)⟩
  · simp [State.port, PortUnit.accept, Entry.accepted]
  · exact vector_set_get_fin_ne s.ports _ hq

/-! #### The window that the decoder finds (R131) -/

section
variable {s : State} {p : PortId} {e : Entry} {w : WinId}

theorem State.liveWindows_sorted (s : State) : s.liveWindows.Pairwise (· < ·) :=
  (List.pairwise_lt_finRange 16).filter _

/-- The lowest-numbered window that is not OFF and meets a test is the one that is found. -/
theorem State.find_liveWindows {test : WinId → Bool} (hw : (s.win w).life ≠ .off) (ht : test w = true)
    (hlow : ∀ x, x < w → (s.win x).life ≠ .off → test x = false) : s.liveWindows.find? test = some w := by
  obtain ⟨l, r, hl⟩ := List.append_of_mem (mem_liveWindows.mpr hw)
  have hsorted := hl ▸ s.liveWindows_sorted
  obtain ⟨_, _, hbefore⟩ := List.pairwise_append.mp hsorted
  refine List.find?_eq_some_iff_append.mpr ⟨ht, l, r, hl, fun x hx => ?_⟩
  have hlive : (s.win x).life ≠ .off := mem_liveWindows.mp (hl ▸ List.mem_append_left _ hx)
  simp [hlow x (hbefore x hx w (List.mem_cons_self ..)) hlive]

/-- A span touches a shadow range of a window exactly when it touches the range of one of its banks 1 to BANKS − 1 (R3). -/
theorem WindowRec.any_shadowIds (c : WindowRec) (t : Txn) : (c.shadowIds.any fun k => touchesRange t c k.val) = true ↔
    ∃ k : BankId, 1 ≤ k.val ∧ k.val < c.bankCount ∧ touchesRange t c k.val = true := by
  simp only [List.any_eq_true, WindowRec.shadowIds, WindowRec.bankIds, List.mem_filter, List.mem_finRange, true_and,
    decide_eq_true_eq, Nat.lt_iff_add_one_le, Nat.zero_add]
  exact exists_congr fun k => ⟨fun ⟨⟨hb, h0⟩, ht⟩ => ⟨h0, hb, ht⟩, fun ⟨h0, hb, ht⟩ => ⟨⟨hb, h0⟩, ht⟩⟩

/-- Test 2 of R130 finds the lowest-numbered window with a touched shadow range. -/
theorem State.shadowTouched_of {t : Txn} {k : BankId} (hw : (s.win w).life ≠ .off) (h1 : 1 ≤ k.val)
    (hk : k.val < (s.cfg w).bankCount) (ht : touchesRange t (s.cfg w) k.val = true)
    (hlow : ∀ (x : WinId) (j : BankId), x < w → (s.win x).life ≠ .off → 1 ≤ j.val → j.val < (s.cfg x).bankCount →
      touchesRange t (s.cfg x) j.val = false) : s.shadowTouched t = some w := by
  refine State.find_liveWindows hw ((WindowRec.any_shadowIds _ t).mpr ⟨k, h1, hk, ht⟩) fun x hx hlive => ?_
  rw [Bool.eq_false_iff]
  intro hany
  obtain ⟨j, hj1, hj, htouch⟩ := (WindowRec.any_shadowIds _ t).mp hany
  rw [hlow x j hx hlive hj1 hj] at htouch
  cases htouch

/-- A transaction that touches no window range is of no window (R130, test 7). -/
theorem State.windowTouched_none {t : Txn} (h : ∀ x : WinId, (s.win x).life ≠ .off → touchesRange t (s.cfg x) 0 = false) :
    s.windowTouched t = none :=
  List.find?_eq_none.mpr fun x hx => by simp [h x (mem_liveWindows.mp hx)]

/-! #### Tests 1 to 3 and 7 of R130 -/

theorem treat_malformed (h : malformed e.txn = true) :
    s.treat p e = (s.offer .malformed none (some p) (some (lowAddress e.txn)), .answered .refused []) := by
  simp [State.treat, State.classify, h]

theorem treat_shadow (hf : malformed e.txn = false) (hs : s.shadowTouched e.txn = some w) :
    s.treat p e = (s.offer .shadowAccess (some w) (some p) (some (lowAddress e.txn)), .answered .refused []) := by
  simp [State.treat, State.classify, hf, hs]

theorem treat_straddle (hf : malformed e.txn = false) (hs : s.ClearOfShadows e.txn) (hw : s.windowTouched e.txn = some w)
    (hin : withinWindow e.txn (s.cfg w) = false) :
    s.treat p e = (s.offer .straddle (some w) (some p) (some (lowAddress e.txn)), .answered .refused []) := by
  simp [State.treat, State.classify, hf, shadowTouched_none hs, hw, hin]

theorem treat_passThrough (hf : malformed e.txn = false) (hs : s.ClearOfShadows e.txn) (hw : s.windowTouched e.txn = none) :
    s.treat p e = (s, .sent [passPart p e.serial e.txn] (noData e.txn) none false) := by
  simp [State.treat, State.classify, hf, shadowTouched_none hs, hw]

/-- A refusal that a port-level test gives: the entry is REFUSED, the fault is offered, and nothing else changes (R131). -/
theorem exec_dispatch_refused {k : FaultKind} {x : Option WinId} {loc : Option Nat} (hd : s.Dispatches p e)
    (ht : s.treat p e = (s.offer k x (some p) loc, .answered .refused [])) :
    ∃ t, exec (.dispatch p) s = .next t ∧ s.AnswersEntry t p .refused [] ∧
      t.faults = (s.offer k x (some p) loc).faults ∧ { t with ports := s.ports, faults := s.faults } = s := by
  refine ⟨_, State.exec_dispatch hd, ?_⟩
  rw [ht]
  exact ⟨answersEntry_settle (s := s) (u := s.offer k x (some p) loc) rfl _ _, rfl, rfl⟩

end

/-- Settles O8: each of the three tests finds its window, and the refusal is the same. -/
theorem portLevelRefusals : Obligations.PortLevelRefusals := fun _ _ _ hd =>
  ⟨fun hm => exec_dispatch_refused hd (treat_malformed hm),
    fun _ _ hf hw h1 hk ht hlow => exec_dispatch_refused hd (treat_shadow hf (State.shadowTouched_of hw h1 hk ht hlow)),
    fun _ hf hs hw ht hin hlow => exec_dispatch_refused hd (treat_straddle hf hs (State.find_liveWindows hw ht hlow) hin)⟩

/-- Settles O10: test 7 of R130, and the part that is the transaction itself. -/
theorem passThroughForwarded : Obligations.PassThroughForwarded := by
  intro s p e hd hf hs hw
  refine ⟨_, State.exec_dispatch hd, ?_⟩
  rw [treat_passThrough hf hs (State.windowTouched_none hw)]
  exact ⟨sendsEntry_settle rfl rfl _ _ _ _, rfl⟩

end Sys2Proof.Machine
end

section
/-! ### Responses, and completions that reach no window (R132, R138 to R140, R150, R153) -/

namespace Sys2Proof.Machine

open Sys2Proof

set_option Elab.async false

/-! #### The bytes of a word -/

/-- Bit i of a word of up to eight bytes is bit i mod 8 of byte i div 8. -/
theorem getLsbD_wordOfBytes (bytes : List Byte) {i : Nat} (h : i < 64) :
    (wordOfBytes bytes).getLsbD i = (bytes.getD (i / 8) 0).getLsbD (i % 8) := by
  induction bytes generalizing i with
  | nil => simp [wordOfBytes]
  | cons b rest ih =>
    rw [wordOfBytes, BitVec.getLsbD_or, BitVec.getLsbD_shiftLeft, BitVec.getLsbD_setWidth]
    by_cases hi : i < 8
    · simp [hi, h, Nat.div_eq_of_lt hi, Nat.mod_eq_of_lt hi]
    · have hdiv : i / 8 = (i - 8) / 8 + 1 := by omega
      have hmod : (i - 8) % 8 = i % 8 := by omega
      have hout : b.getLsbD i = false := BitVec.getLsbD_of_ge b i (by omega)
      rw [ih (by omega), hmod, hdiv, List.getD_cons_succ]
      simp [h, hi, hout]

/-- Byte k of a word of up to eight bytes. -/
theorem extractLsb'_wordOfBytes (bytes : List Byte) {k : Nat} (h : k < 8) :
    (wordOfBytes bytes).extractLsb' (8 * k) 8 = bytes.getD k 0 := by
  refine BitVec.eq_of_getLsbD_eq fun j hj => ?_
  have hdiv : (8 * k + j) / 8 = k := by omega
  have hmod : (8 * k + j) % 8 = j := by omega
  rw [BitVec.getLsbD_extractLsb', getLsbD_wordOfBytes bytes (by omega), hdiv, hmod]
  simp [hj]

/-! #### The response of the oldest entry (R139, R140) -/

/-- What lane k of beat i carries (R139, logs 6 and 23). -/
theorem responseBeat_lane (x : Txn) (data : List Byte) (i : Nat) {k a : Nat} (hk : k < 8)
    (ha : a = x.addr.toNat + i * x.beatSize.bytes) :
    (responseBeat x data i).extractLsb' (8 * k) 8 =
      if a ≤ a / 8 * 8 + k ∧ a / 8 * 8 + k < a + x.beatSize.bytes then data.getD (a / 8 * 8 + k - x.addr.toNat) 0 else 0 := by
  subst ha
  rw [responseBeat, extractLsb'_wordOfBytes _ hk]
  simp [List.getD, hk, firstByte]

theorem Entry.response_beats (e : Entry) (code : Code) : (e.response code).beats =
    if e.txn.kind = .write then []
    else if code = .okay then (List.range (e.txn.burst.val + 1)).map (responseBeat e.txn e.data)
    else List.replicate (e.txn.burst.val + 1) 0 := by
  cases hk : e.txn.kind <;> cases code <;> simp [Entry.response, hk]

theorem exec_responseReturn_of_answered {s : State} {p : PortId} {e : Entry} {rest : List Entry} {code : Code}
    (hr : s.rstn = true) (he : (s.port p).entries = e :: rest) (ha : e.state = .answered) (hc : e.code = some code) :
    exec (.responseReturn p) s =
      .next { s.modEntries p (fun _ => rest) with
        out := { s.out with responses := s.out.responses.set p.val (some (e.response code)) } } := by
  simp only [exec, execResponseReturn, hr, he, ha, hc]
  rfl

theorem exec_responseReturn_of_not_answered {s : State} {p : PortId}
    (h : (s.port p).entries = [] ∨ ∃ e rest, (s.port p).entries = e :: rest ∧ e.state ≠ .answered) :
    exec (.responseReturn p) s = .next s := by
  obtain he | ⟨e, rest, he, hstate⟩ := h
  · simp [exec, execResponseReturn, he]
  · cases hr : s.rstn with
    | false => simp [exec, execResponseReturn, hr]
    | true =>
      simp only [exec, execResponseReturn, hr, he]
      split
      · next ha _ => exact absurd ha hstate
      · rfl

/-- Settles O25: the response by the kind and the code, its bytes lane by lane. -/
theorem responseReturned : Obligations.ResponseReturned := by
  refine ⟨fun s p e rest code hr he ha hc => ⟨_, exec_responseReturn_of_answered hr he ha hc, ?_, fun q hq => ?_, ?_,
    fun q hq => vector_set_get_fin_ne s.out.responses _ hq, rfl⟩, fun s p => exec_responseReturn_of_not_answered,
    fun x data i lane a hl ha => responseBeat_lane x data i hl ha⟩
  · exact State.port_modEntries_same s p fun _ => rest
  · exact State.port_modEntries_ne s (fun _ => rest) hq
  · rw [← Entry.response_beats e code]
    simp [Entry.response]

/-! #### Completions (R132, R138, R150, R153) -/

/-- The completion of a pass-through transaction reaches the port alone (R132). -/
theorem exec_passThroughPart {s : State} {p : PortId} {o : Issue} {e : Entry} (h : s.LastPart p o e) (hw : o.window = none)
    (ok : Bool) (rdata : Burst) : exec (.memoryCompletion ok rdata) s = .next (s.partRecorded p o ok rdata) := by
  have hentry : (s.issueRetired.port p).entries.find? (Entry.isRef o.ref) = some e := h.entry
  rw [exec_completion h.running h.oldest, State.route_port _ h.owner]
  simp only [State.portCompletion, hentry, hw, State.partRecorded]

/-- A part that is not its transaction's last reaches the port alone (R138). -/
theorem exec_earlierPart {s : State} {p : PortId} {o : Issue} {e : Entry} (hr : s.rstn = true)
    (ho : s.mport.outstanding.head? = some o) (howner : o.owner = requesterOf p)
    (he : (s.port p).entries.find? (Entry.isRef o.ref) = some e) (hparts : 1 < e.parts) (ok : Bool) (rdata : Burst) :
    exec (.memoryCompletion ok rdata) s = .next (s.partRecorded p o ok rdata) := by
  have hentry : (s.issueRetired.port p).entries.find? (Entry.isRef o.ref) = some e := he
  rw [exec_completion hr ho, State.route_port _ howner]
  cases hw : o.window with
  | none => simp only [State.portCompletion, hentry, hw, State.partRecorded]
  | some w => simp only [State.portCompletion, hentry, hw, if_neg (Nat.not_le.mpr hparts), State.partRecorded]

/-- The entry one of whose parts has completed, others still to come (R138). -/
theorem Entry.partDone_earlier {e : Entry} (h : 1 < e.parts) (o : Issue) (ok : Bool) (rdata : Burst) :
    e.partDone o ok rdata =
      { e with
        parts := e.parts - 1
        errored := e.errored || !ok
        data := if o.kind = .read then placeBytes o.pos o.bytes rdata e.data else e.data } := by
  cases hk : o.kind <;> simp [Entry.partDone, Nat.not_le.mpr h, hk]

theorem exec_completion_of_none {s : State} (h : s.mport.outstanding = []) (ok : Bool) (rdata : Burst) :
    exec (.memoryCompletion ok rdata) s = .next s := by
  cases hr : s.rstn <;> simp only [exec, execMemoryCompletion, hr, h]

/-- DATA after a part, byte by byte (R138). -/
theorem getElem?_placeBytes (pos n : Nat) (rdata : Burst) {data : List Byte} {i : Nat} (h : i < data.length) :
    (placeBytes pos n rdata data)[i]? =
      if pos ≤ i ∧ i < pos + n then some (rdata.extractLsb' (8 * (i - pos)) 8) else data[i]? := by
  rw [placeBytes, List.getElem?_mapIdx, List.getElem?_eq_getElem h, Option.map_some]
  split <;> rfl

/-- Settles O27: the state is that of `State.partRecorded`, with the entry of a last or of an earlier part. -/
theorem partCompletes : Obligations.PartCompletes := by
  refine ⟨fun s p o e ok rdata h hw => ⟨_, exec_passThroughPart h hw ok rdata, State.completesEntry_of h rfl rfl, rfl⟩,
    fun s p o rest e ok rdata hr ho howner he hparts => ?_, fun s ok rdata h => exec_completion_of_none h ok rdata,
    fun pos n rdata data i h => getElem?_placeBytes pos n rdata h⟩
  refine ⟨_, exec_earlierPart hr (by rw [ho]; rfl) howner he hparts ok rdata, ?_, fun q hq => ?_, ?_, rfl⟩
  · rw [State.partRecorded, State.port_modEntries_same]
    refine congrArg (fun es => PortUnit.mk es (s.port p).nextSerial) (modFirst_congr (e := e) he ?_)
    exact Entry.partDone_earlier hparts o ok rdata
  · exact State.port_modEntries_ne s.issueRetired _ hq
  · rw [State.partRecorded, State.modEntries_mport, State.issueRetired, ho, List.tail_cons]

end Sys2Proof.Machine
end

section
/-! ### The hold deadline (R136, R159) -/

namespace Sys2Proof.Machine

open Sys2Proof

set_option Elab.async false

section
variable {s : State} {p : PortId} {e : Entry} {w : WinId}

/-- A hold deadline that is due is taken (R159). -/
theorem exec_holdDeadline_of_due (hr : s.rstn = true) (he : s.heldEntry p = some e) (hw : e.holdwin = some w)
    (hd : e.holddl = some s.time.stamp) : exec (.holdDeadline p) s = .next (s.holdExpiry p w e) := by
  simp [exec, execHoldDeadline, hr, State.takeHold, he, hw, State.isDue, hd]

/-- One that is not due is not (log 2). -/
theorem exec_holdDeadline_of_not_due (h : ∀ e ∈ (s.port p).entries, e.state = .held → e.holddl ≠ some s.time.stamp) :
    exec (.holdDeadline p) s = .next s := by
  have hnot : s.takeHold p = s := by
    unfold State.takeHold
    split
    · rfl
    · next e he =>
      have hheld : e.isHeld = true := List.find?_some (p := Entry.isHeld) he
      have hdue : ¬ s.isDue e.holddl = true := by simp [State.isDue, h e (List.mem_of_find?_eq_some he) (of_decide_eq_true hheld)]
      split
      · rw [if_neg hdue]
      · rfl
  cases hr : s.rstn <;> simp [exec, execHoldDeadline, hr, hnot]

/-- Whether the held transaction is the producer's write, which sets LASTREFUSED (R27, R89, R136). -/
def State.holdsProducerWrite (s : State) (p : PortId) (w : WinId) (e : Entry) : Bool :=
  decide (e.txn.kind = .write) && decide ((s.cfg w).producer = p)

/-- A hold expiry as one change of the port, one of the controller and an offer (R136). -/
theorem State.holdExpiry_eq (s : State) (p : PortId) (w : WinId) (e : Entry) : s.holdExpiry p w e =
    ((s.modEntries p (modFirst Entry.isHeld (Entry.answer .refused []))).modWin w fun x =>
      { x with
        refusals := x.refusals + 1
        expiries := x.expiries + 1
        prod := { x.prod with lastrefused := x.prod.lastrefused || s.holdsProducerWrite p w e } }).offer
      .holdExpired (some w) (some p) (some (startGranule (s.cfg w) e.txn)) := by
  have hiff : s.holdsProducerWrite p w e = decide (e.txn.kind = .write ∧ (s.cfg w).producer = p) := (Bool.decide_and ..).symm
  rw [hiff]
  unfold State.holdExpiry
  dsimp only
  split_ifs with hk
  · simp [hk, State.modProd, State.countRefusal, State.countExpiry]
  · simp [hk, State.countRefusal, State.countExpiry]

end

/-- Settles O40: the expiry by `State.holdExpiry_eq`. -/
theorem holdDeadlineTaken : Obligations.HoldDeadlineTaken := by
  refine ⟨fun s p w e hr he hw hd => ⟨_, exec_holdDeadline_of_due hr he hw hd, ?_⟩, fun s p => exec_holdDeadline_of_not_due⟩
  rw [State.holdExpiry_eq]
  exact ⟨State.port_modEntries_same s p _, fun q hq => State.port_modEntries_ne s _ hq, rfl, rfl, rfl⟩

end Sys2Proof.Machine
end

section
/-! ### Reads of the state (R142, R182, R185 to R188)

Each read command is one frame that is executed, BUSY or not, and changes nothing but the answer; what it answers is a page of the
state, which the frame itself leaves alone. -/

namespace Sys2Proof.Machine

open Sys2Proof

set_option Elab.async false

/-- A command is answered with a status and data, and nothing else changes. -/
def State.AnswersOnly (s : State) (c : Instr) (op : Byte) (x : Status) (data : List Byte) : Prop :=
  ∃ t, exec c s = .next t ∧ s.Answered t op x data ∧ s.apartFromAnswer t = s

section
variable {s : State} {r : LinkReq} {w : WinId} {p : PortId} {data : List Byte}

/-! #### STATUS and TIME READ -/

theorem status_answers (h : s.receives = true) (r : LinkReq) : s.AnswersOnly (.status r) 0x01 .done s.statusData :=
  exec_answered_only rfl h (.inr rfl) rfl

theorem timeRead_answers (h : s.receives = true) (r : LinkReq) :
    s.AnswersOnly (.timeRead r) 0x50 .done (le32 s.time.stamp) :=
  exec_answered_only rfl h (.inr rfl) rfl

/-! #### The pages of a window (R185) -/

theorem windowRead_page (h : s.receives = true) (hw : r.window.toNat = w.val) (hp : s.windowPage w r = some data) :
    s.AnswersOnly (.windowRead r) 0x30 .done data := by
  have hpage : (s.frameEnded Config.frameClocks).windowPage w r = some data := hp
  exact exec_answered_only rfl h (.inr rfl) (by rw [State.cmdWindowRead, State.withWindow_of hw, hpage]; rfl)

theorem windowRead_noPage (h : s.receives = true) (hw : r.window.toNat = w.val) (hp : s.windowPage w r = none) :
    s.AnswersOnly (.windowRead r) 0x30 .badField [] := by
  have hpage : (s.frameEnded Config.frameClocks).windowPage w r = none := hp
  exact exec_answered_only rfl h (.inr rfl) (by rw [State.cmdWindowRead, State.withWindow_of hw, hpage]; rfl)

theorem State.windowPage_zero (hf : r.field = 0) : s.windowPage w r = some
    ([(s.win w).life.code, optByte ((s.win w).prod.bank.map Fin.val), BitVec.ofNat 8 (s.producerCode w)]
      ++ le16 (s.win w).prod.nextseq ++ [flagByte [(s.win w).prod.lastdrop, (s.win w).prod.lastrefused]]) := by
  rw [State.windowPage, hf]
  rfl

theorem State.windowPage_one (hf : r.field = 1) : s.windowPage w r = some
    (le32 ((s.win w).prod.opendl.getD 0)
      ++ [if (s.win w).prod.opendl.isSome then 1 else 0, BitVec.ofNat 8 (s.win w).outstanding]) := by
  rw [State.windowPage, hf]
  rfl

theorem State.windowPage_two (hf : r.field = 2) : s.windowPage w r = some
    (le32 (s.win w).prod.laststamp
      ++ [BitVec.ofNat 8 (s.win w).order.length, optByte ((s.win w).order.head?.map Fin.val)]) := by
  rw [State.windowPage, hf, List.head?_eq_getElem?]
  rfl

theorem State.windowPage_three (hf : r.field = 3) : s.windowPage w r = some
    ((List.range 6).map fun i => optByte (((s.win w).order[r.index.toNat + i]?).map Fin.val)) := by
  rw [State.windowPage, hf]
  rfl

theorem State.windowPage_none (hf : 3 < r.field.toNat) : s.windowPage w r = none := by
  unfold State.windowPage
  dsimp only
  split
  case h_5 => rfl
  all_goals omega

/-! #### The pages of a claim (R187) -/

theorem claimRead_page (h : s.receives = true) (hw : r.window.toNat = w.val) (hi : r.index.toNat = p.val)
    (hp : (s.claim w p).page r.field = some data) : s.AnswersOnly (.claimRead r) 0x32 .done data := by
  have hlt : r.index.toNat < 4 := hi ▸ p.isLt
  have hport : (⟨r.index.toNat, hlt⟩ : PortId) = p := Fin.ext hi
  have hpage : ((s.frameEnded Config.frameClocks).claim w p).page r.field = some data := hp
  exact exec_answered_only rfl h (.inr rfl)
    (by rw [State.cmdClaimRead, State.withWindow_of hw, dif_pos hlt, hport, hpage]; rfl)

theorem Claim.page_zero {k : Claim} {field : Byte} (hf : field = 0) : k.page field = some
    [optByte (k.bank.map Fin.val), BitVec.ofNat 8 k.reads,
      flagByte [k.closing, k.deferred, k.expired, k.claimexpired, k.claimdl.isSome], k.missed, k.claimmissed] := by
  subst hf
  rfl

theorem Claim.page_one {k : Claim} {field : Byte} (hf : field = 1) :
    k.page field = some (le32 (k.claimdl.getD 0) ++ le16 k.lastseq) := by
  subst hf
  rfl

theorem Claim.page_none {k : Claim} {field : Byte} (hf : 1 < field.toNat) : k.page field = none := by
  unfold Claim.page
  split
  case h_3 => rfl
  all_goals omega

theorem claimRead_noPage (h : s.receives = true) (hw : r.window.toNat = w.val) (hn : 3 < r.index.toNat ∨ 1 < r.field.toNat) :
    s.AnswersOnly (.claimRead r) 0x32 .badField [] := by
  refine exec_answered_only rfl h (.inr rfl) ?_
  rw [State.cmdClaimRead, State.withWindow_of hw]
  split
  · next hlt => rw [Claim.page_none (hn.resolve_left (by omega))]; rfl
  · rfl

/-! #### The counters of a window (R188) -/

theorem counterRead_answers (h : s.receives = true) (hw : r.window.toNat = w.val) {n : Count32}
    (hc : (s.win w).counter r.field = some n) : s.AnswersOnly (.counterRead r) 0x34 .done (le32 n) := by
  have hcount : ((s.frameEnded Config.frameClocks).win w).counter r.field = some n := hc
  exact exec_answered_only rfl h (.inr rfl) (by rw [State.cmdCounterRead, State.withWindow_of hw, hcount]; rfl)

theorem WinCtl.counter_of {x : WinCtl} {field : Byte} {n : Count32}
    (hn : (field = 0 ∧ n = x.commits) ∨ (field = 1 ∧ n = x.drops) ∨ (field = 2 ∧ n = x.refusals) ∨
      (field = 3 ∧ n = x.expiries)) : x.counter field = some n := by
  obtain ⟨rfl, rfl⟩ | ⟨rfl, rfl⟩ | ⟨rfl, rfl⟩ | ⟨rfl, rfl⟩ := hn <;> rfl

theorem WinCtl.counter_none {x : WinCtl} {field : Byte} (hf : 3 < field.toNat) : x.counter field = none := by
  unfold WinCtl.counter
  split
  case h_5 => rfl
  all_goals omega

theorem counterRead_noCounter (h : s.receives = true) (hw : r.window.toNat = w.val) (hf : 3 < r.field.toNat) :
    s.AnswersOnly (.counterRead r) 0x34 .badField [] :=
  exec_answered_only rfl h (.inr rfl)
    (by rw [State.cmdCounterRead, State.withWindow_of hw, WinCtl.counter_none hf]; rfl)

/-! #### The items of a port (R142, R187) -/

theorem portRead_answers (h : s.receives = true) (hi : r.index.toNat = p.val) (hd : s.portPage p = data) :
    s.AnswersOnly (.portRead r) 0x33 .done data := by
  have hlt : r.index.toNat < 4 := hi ▸ p.isLt
  have hport : (⟨r.index.toNat, hlt⟩ : PortId) = p := Fin.ext hi
  have hpage : (s.frameEnded Config.frameClocks).portPage p = data := hd
  exact exec_answered_only rfl h (.inr rfl) (by rw [State.cmdPortRead, dif_pos hlt, hport, hpage]; rfl)

theorem portRead_noPort (h : s.receives = true) (hi : 3 < r.index.toNat) :
    s.AnswersOnly (.portRead r) 0x33 .badField [] :=
  exec_answered_only rfl h (.inr rfl) (by rw [State.cmdPortRead, dif_neg (by omega)]; rfl)

/-! #### The pages of a bank (R186) -/

theorem bankRead_answers (h : s.receives = true) (hw : r.window.toNat = w.val) {b : BankId} (hi : r.index.toNat = b.val)
    (hb : b.val < (s.cfg w).bankCount) (hf : (s.cfg w).hasBankPage r.field = true) (hl : (s.win w).life ≠ .off) :
    s.AnswersOnly (.bankRead r) 0x31 .done (s.bankPage w b r.field) := by
  have hlt : r.index.toNat < 8 := hi ▸ b.isLt
  have hbank : (⟨r.index.toNat, hlt⟩ : BankId) = b := Fin.ext hi
  have hpage : ¬ ((s.cfg w).bankCount ≤ r.index.toNat ∨ (s.cfg w).hasBankPage r.field = false) := by simp [hi, hb, hf]
  refine exec_answered_only rfl h (.inr rfl) ?_
  rw [State.cmdBankRead, State.withWindow_of hw, State.frameEnded_cfg, State.frameEnded_win, if_neg hpage, if_neg hl,
    dif_pos hlt, hbank]
  rfl

theorem bankRead_noPage (h : s.receives = true) (hw : r.window.toNat = w.val)
    (hn : (s.cfg w).bankCount ≤ r.index.toNat ∨ (s.cfg w).hasBankPage r.field = false) :
    s.AnswersOnly (.bankRead r) 0x31 .badField [] := by
  refine exec_answered_only rfl h (.inr rfl) ?_
  rw [State.cmdBankRead, State.withWindow_of hw, State.frameEnded_cfg, if_pos hn]
  rfl

theorem bankRead_off (h : s.receives = true) (hw : r.window.toNat = w.val) (hl : (s.win w).life = .off)
    (hb : r.index.toNat < (s.cfg w).bankCount) (hf : (s.cfg w).hasBankPage r.field = true) :
    s.AnswersOnly (.bankRead r) 0x31 .badState [] := by
  have hpage : ¬ ((s.cfg w).bankCount ≤ r.index.toNat ∨ (s.cfg w).hasBankPage r.field = false) := by simp [hb, hf]
  refine exec_answered_only rfl h (.inr rfl) ?_
  rw [State.cmdBankRead, State.withWindow_of hw, State.frameEnded_cfg, State.frameEnded_win, if_neg hpage, if_pos hl]
  rfl

end

/-! #### COVER as bits (R186) -/

/-- A granule's bit joins the word when COVER holds the granule. -/
def addCoverBit (cover : List Nat) (lo : Nat) (acc : BitVec 32) (j : Nat) : BitVec 32 :=
  if cover.contains (lo + j) then acc ||| (1#32 <<< j) else acc

theorem coverWord_eq_foldl (cover : List Nat) (lo : Nat) :
    coverWord cover lo = (List.range 32).foldl (addCoverBit cover lo) 0 := rfl

theorem getLsbD_addCoverBit (cover : List Nat) (lo : Nat) (acc : BitVec 32) (i : Nat) {j : Nat} (hj : j < 32) :
    (addCoverBit cover lo acc i).getLsbD j = true ↔ acc.getLsbD j = true ∨ (i = j ∧ lo + j ∈ cover) := by
  have hone : (1#32 <<< i).getLsbD j = true ↔ i = j := by
    rw [BitVec.getLsbD_shiftLeft, BitVec.getLsbD_one]
    simp only [hj, decide_true, Bool.true_and, Bool.and_eq_true, Bool.not_eq_true', decide_eq_false_iff_not,
      decide_eq_true_eq]
    omega
  unfold addCoverBit
  split
  · next h =>
    rw [List.contains_iff_mem] at h
    rw [BitVec.getLsbD_or, Bool.or_eq_true, hone]
    exact or_congr_right ⟨fun hij => ⟨hij, hij ▸ h⟩, And.left⟩
  · next h =>
    rw [List.contains_iff_mem] at h
    exact ⟨.inl, fun hor => hor.resolve_right fun ⟨hij, hm⟩ => h (hij ▸ hm)⟩

theorem getLsbD_foldl_addCoverBit (cover : List Nat) (lo : Nat) (l : List Nat) (acc : BitVec 32) {j : Nat} (hj : j < 32) :
    (l.foldl (addCoverBit cover lo) acc).getLsbD j = true ↔ acc.getLsbD j = true ∨ (j ∈ l ∧ lo + j ∈ cover) := by
  induction l generalizing acc with
  | nil => simp
  | cons i l ih =>
    rw [List.foldl_cons, ih, getLsbD_addCoverBit cover lo acc i hj, List.mem_cons, eq_comm (a := j)]
    tauto

/-- Each of the 32 granules of a page has its own bit. -/
theorem getLsbD_coverWord (cover : List Nat) (lo : Nat) {j : Nat} (hj : j < 32) :
    (coverWord cover lo).getLsbD j = true ↔ lo + j ∈ cover := by
  rw [coverWord_eq_foldl, getLsbD_foldl_addCoverBit cover lo _ 0 hj]
  simp [hj]

/-- The FIELD of a COVER page. -/
theorem toNat_coverField {k : Nat} (hk : k < 32) : (BitVec.ofNat 8 (0x20 + k)).toNat = 0x20 + k :=
  (BitVec.toNat_ofNat ..).trans (Nat.mod_eq_of_lt (by omega))

theorem State.bankPage_cover (s : State) (w : WinId) (b : BankId) {k : Nat} (hk : k < 32) :
    s.bankPage w b (BitVec.ofNat 8 (0x20 + k)) =
      le32 (coverWord (s.bank w b).cover (32 * k)) ++ le16Nat (s.bank w b).cover.length := by
  have hfield := toNat_coverField hk
  unfold State.bankPage
  dsimp only
  split
  case h_5 =>
    have hsub : (BitVec.ofNat 8 (0x20 + k)).toNat - 0x20 = k := by omega
    rw [hsub]
  all_goals omega

theorem WindowRec.hasBankPage_cover (c : WindowRec) {k : Nat} (hk : k < 32) :
    c.hasBankPage (BitVec.ofNat 8 (0x20 + k)) = true ↔ 32 * k < c.granuleCount := by
  have hsub : 0x20 + k - 0x20 = k := by omega
  have hlow : ¬ 0x20 + k ≤ 3 := by omega
  rw [WindowRec.hasBankPage, toNat_coverField hk, hsub]
  simp [hlow]

/-- Settles O50, command by command. -/
theorem stateReads : Obligations.StateReads := by
  refine ⟨fun s r w p h => ⟨?_, timeRead_answers h r, fun hw => ⟨fun hf => windowRead_page h hw (State.windowPage_zero hf),
      fun hf => windowRead_page h hw (State.windowPage_one hf), fun hf => windowRead_page h hw (State.windowPage_two hf),
      fun hf => windowRead_page h hw (State.windowPage_three hf), fun hf => windowRead_noPage h hw (State.windowPage_none hf),
      fun hi hf => claimRead_page h hw hi (Claim.page_zero hf), fun hi hf => claimRead_page h hw hi (Claim.page_one hf),
      fun hn => claimRead_noPage h hw hn, fun n hn => counterRead_answers h hw (WinCtl.counter_of hn),
      fun hf => counterRead_noCounter h hw hf⟩, fun hi => portRead_answers h hi ?_, fun hi => portRead_noPort h hi⟩,
    fun s r w h hw => ⟨fun b hi hb hf hl => bankRead_answers h hw hi hb hf hl, fun hl hb hf => bankRead_off h hw hl hb hf,
      fun hn => bankRead_noPage h hw hn⟩,
    fun s w b => ⟨rfl, rfl, rfl, rfl⟩,
    fun s w b k hk => ⟨_, s.bankPage_cover w b hk, fun j hj => getLsbD_coverWord _ _ hj⟩,
    fun c k hk => c.hasBankPage_cover hk, rfl, rfl⟩
  · have hdata := status_answers h r
    unfold State.statusData at hdata
    cases hl : s.link.longOp.windows <;> rw [hl] at hdata <;> exact hdata
  · unfold State.portPage
    cases s.heldEntry p with
    | none => rfl
    | some e =>
      dsimp only [Option.bind_some]
      cases e.holdwin <;> rfl

end Sys2Proof.Machine
end

section
/-! ### The arbiter and the issue of a request (8.2 to 8.5)

The requester chosen is the first from the pointer on with a request queued. A grant is then one update of the memory port and of what
it drives on M. -/

namespace Sys2Proof.Machine

open Sys2Proof

/-! #### The choice of a requester (R147) -/

/-- The requester examined after `k` others. -/
theorem arbiterOrder_getElem (pointer : Requester) {k : Nat} (hk : k < (arbiterOrder pointer).length) :
    (arbiterOrder pointer)[k] = pointer + Fin.ofNat 5 k := by
  have hfin : (⟨k, hk⟩ : Fin 5) = Fin.ofNat 5 k := Fin.ext (Nat.mod_eq_of_lt hk).symm
  rw [← hfin]
  simp [arbiterOrder]

/-- Requesters passed over have nothing queued; the one chosen has. -/
theorem MemPort.chosen_of_first {m : MemPort} {k : Nat} (hk : k < 5)
    (hempty : ∀ j, j < k → m.queues[m.pointer + Fin.ofNat 5 j] = []) (hqueued : m.queues[m.pointer + Fin.ofNat 5 k] ≠ []) :
    m.chosen = some (m.pointer + Fin.ofNat 5 k) := by
  rw [MemPort.chosen, List.find?_eq_some_iff_getElem]
  refine ⟨by simpa using hqueued, k, hk, arbiterOrder_getElem m.pointer hk, fun j hj => ?_⟩
  rw [arbiterOrder_getElem, hempty j hj]
  rfl

theorem MemPort.chosen_of_empty {m : MemPort} (h : ∀ r : Requester, m.queues[r] = []) : m.chosen = none := by
  simp [MemPort.chosen, h]

/-! #### The physical address (R145) -/

theorem State.physicalAddr_window (s : State) {q : MemReq} {w : WinId} {b : BankId} (hw : q.window = some w)
    (hb : q.bank = some b) : s.physicalAddr q = (s.bank w b).pbase + q.offset := by
  simp [State.physicalAddr, hw, hb]

theorem State.physicalAddr_noWindow (s : State) {q : MemReq} (h : q.window = none ∨ q.bank = none) :
    s.physicalAddr q = q.offset := by
  unfold State.physicalAddr
  split
  · next hw hb => simp [hw, hb] at h
  · rfl

/-! #### The grant (R146, R147, R149) -/

/-- The request that a grant takes off its requester's queue is outstanding and driven on M, and nothing else changes. -/
theorem State.grantTo_of_queued {s : State} {r : Requester} {q : MemReq} {rest : List MemReq}
    (h : s.mport.queues[r] = q :: rest) :
    s.grantTo r =
      { s with
        mport :=
          { queues := s.mport.queues.set r.val rest
            outstanding := s.mport.outstanding ++ [q.issue (s.physicalAddr q)]
            pointer := r + 1 }
        out := { s.out with issued := some (q.onBus (s.physicalAddr q)) } } := by
  rw [State.grantTo, h]

theorem exec_grant_of_chosen {s : State} {r : Requester} (hr : s.rstn = true) (hroom : s.mport.outstanding.length < 32)
    (hc : s.mport.chosen = some r) : exec .grant s = .next (s.grantTo r) := by
  simp [exec, execGrant, Config.outstandingMax, hr, hroom, hc]

theorem exec_grant_of_full {s : State} (h : 32 ≤ s.mport.outstanding.length) : exec .grant s = .next s := by
  simp [exec, execGrant, Config.outstandingMax, Nat.not_lt.mpr h]

theorem exec_grant_of_empty {s : State} (h : ∀ r : Requester, s.mport.queues[r] = []) : exec .grant s = .next s := by
  simp [exec, execGrant, MemPort.chosen_of_empty h]

/-- Settles O26: the first requester with a request is the one chosen, and the address is R145's in either case. -/
theorem grantIssues : Obligations.GrantIssues := by
  refine ⟨fun s k r q rest hr hroom hk hkr hempty hq => ?_, fun s h => h.elim exec_grant_of_full exec_grant_of_empty⟩
  subst hkr
  have hchosen := MemPort.chosen_of_first hk hempty (by rw [hq]; exact List.cons_ne_nil q rest)
  have hexec := exec_grant_of_chosen hr hroom hchosen
  rw [State.grantTo_of_queued hq] at hexec
  exact ⟨_, s.physicalAddr q, hexec, fun w b => s.physicalAddr_window, s.physicalAddr_noWindow, rfl, rfl, rfl⟩

end Sys2Proof.Machine
end

section
/-! ### COUNTER CLEAR, PRESCALE and MASK WRITE (R156, R171, R172, R188) -/

namespace Sys2Proof.Machine

open Sys2Proof

set_option Elab.async false

section
variable {s : State} {r : LinkReq} {w : WinId}

theorem State.cmdPrescale_of_range (hl : 1 ≤ r.value.toNat) (hu : r.value.toNat ≤ 250) : s.cmdPrescale r =
    ⟨{ s with time := { s.time with p := r.value.toNat } }, .done, [BitVec.ofNat 8 r.value.toNat]⟩ :=
  if_pos ⟨hl, hu⟩

theorem State.cmdPrescale_of_outside (h : r.value.toNat = 0 ∨ 250 < r.value.toNat) : s.cmdPrescale r = s.reply .badField :=
  if_neg (by simp only [Config.prescalerMax]; omega)

theorem State.cmdMaskWrite_of_range (h : r.value.toNat ≤ 7) : s.cmdMaskWrite r =
    ⟨{ s with faults := { s.faults with mask := BitVec.ofNat 3 r.value.toNat } }, .done, [BitVec.ofNat 8 r.value.toNat]⟩ :=
  if_pos (Nat.lt_succ_of_le h)

theorem State.cmdMaskWrite_of_outside (h : 7 < r.value.toNat) : s.cmdMaskWrite r = s.reply .badField :=
  if_neg (Nat.not_lt.mpr h)

theorem counterClear_answers (h : s.LinkReady) (hw : r.window.toNat = w.val) :
    ∃ t, exec (.counterClear r) s = .next t ∧ s.Answered t 0x35 .done [] ∧
      s.apartFromAnswer t =
        { s with
          windows := s.windows.set w.val { s.win w with commits := 0, drops := 0, refusals := 0, expiries := 0 } } := by
  obtain ⟨he, ha⟩ := exec_answered (c := .counterClear r) rfl h.receives (.inl h.idle) (State.withWindow_of hw _) rfl rfl
  exact ⟨_, he, ha, rfl⟩

theorem prescale_answers (h : s.LinkReady) (hl : 1 ≤ r.value.toNat) (hu : r.value.toNat ≤ 250) :
    ∃ t, exec (.prescale r) s = .next t ∧ s.Answered t 0x51 .done [BitVec.ofNat 8 r.value.toNat] ∧
      s.apartFromAnswer t = { s with time := { s.time with p := r.value.toNat } } := by
  obtain ⟨he, ha⟩ := exec_answered (c := .prescale r) rfl h.receives (.inl h.idle) (State.cmdPrescale_of_range hl hu) rfl rfl
  exact ⟨_, he, ha, rfl⟩

theorem maskWrite_answers (h : s.LinkReady) (hv : r.value.toNat ≤ 7) :
    ∃ t, exec (.maskWrite r) s = .next t ∧ s.Answered t 0x52 .done [BitVec.ofNat 8 r.value.toNat] ∧
      s.apartFromAnswer t = { s with faults := { s.faults with mask := BitVec.ofNat 3 r.value.toNat } } := by
  obtain ⟨he, ha⟩ := exec_answered (c := .maskWrite r) rfl h.receives (.inl h.idle) (State.cmdMaskWrite_of_range hv) rfl rfl
  exact ⟨_, he, ha, rfl⟩

end

/-- Settles O51: in range each command's one change, outside it BADFIELD alone. -/
theorem countersTimeMasks : Obligations.CountersTimeMasks := fun _ _ h =>
  ⟨fun _ hw => counterClear_answers h hw,
    prescale_answers h,
    fun hv => exec_answered_only rfl h.receives (.inl h.idle) (State.cmdPrescale_of_outside hv),
    maskWrite_answers h,
    fun hv => exec_answered_only rfl h.receives (.inl h.idle) (State.cmdMaskWrite_of_outside hv)⟩

end Sys2Proof.Machine
end

section
/-! ### The taking of deadlines arms nothing (R158, R159)

What the taking of a deadline changes, in any window or port, can end a deadline and can end a hold, and begins neither. So the
deadlines that an increment takes one after another are those that were due when it began. -/

namespace Sys2Proof.Machine

open Sys2Proof

set_option Elab.async false

/-! #### The HELD entries of a list -/

/-- A release event leaves HELD some of the entries that were (R135). -/
theorem filter_held_release (w : WinId) (es : List Entry) :
    ((es.map (Entry.release w)).filter Entry.isHeld).Sublist (es.filter Entry.isHeld) := by
  induction es with
  | nil => exact .refl _
  | cons e es ih =>
    cases hw : e.isHeldBy w with
    | true =>
      have hfree : (e.release w).isHeld = false := by simp [Entry.release, hw, Entry.isHeld]
      rw [List.map_cons, List.filter_cons_of_neg (by simp [hfree])]
      exact ih.trans ((List.sublist_cons_self e es).filter _)
    | false =>
      have hsame : e.release w = e := by simp [Entry.release, hw]
      rw [List.map_cons, hsame]
      cases hh : e.isHeld with
      | true =>
        rw [List.filter_cons_of_pos hh, List.filter_cons_of_pos hh]
        exact ih.cons_cons e
      | false => simpa [hh] using ih

/-- The first HELD entry, answered, is HELD no more (R136). -/
theorem filter_held_answer (code : Code) (data : List Byte) (es : List Entry) :
    (modFirst Entry.isHeld (Entry.answer code data) es).filter Entry.isHeld = (es.filter Entry.isHeld).tail := by
  induction es with
  | nil => rfl
  | cons e es ih =>
    unfold modFirst
    split
    · next hh =>
      have hdone : (e.answer code data).isHeld = false := rfl
      rw [List.filter_cons_of_neg (by simp [hdone]), List.filter_cons_of_pos hh, List.tail_cons]
    · next hh => rw [List.filter_cons_of_neg hh, List.filter_cons_of_neg hh, ih]

/-! #### What arms nothing -/

/-- At the same count, every deadline armed in t is armed in s with the same due value, and the entries HELD in t are among those
HELD in s. -/
structure State.ArmsNone (s t : State) : Prop where
  time : t.time = s.time
  opendl : ∀ w d, (t.win w).prod.opendl = some d → (s.win w).prod.opendl = some d
  claimdl : ∀ w p d, (t.claim w p).claimdl = some d → (s.claim w p).claimdl = some d
  held : ∀ p, ((t.port p).entries.filter Entry.isHeld).Sublist ((s.port p).entries.filter Entry.isHeld)

namespace State.ArmsNone

variable {s t u : State} {w : WinId} {p : PortId}

theorem refl (s : State) : s.ArmsNone s := ⟨rfl, fun _ _ => id, fun _ _ _ => id, fun _ => .refl _⟩

theorem trans (h : s.ArmsNone t) (k : t.ArmsNone u) : s.ArmsNone u where
  time := k.time.trans h.time
  opendl x d := h.opendl x d ∘ k.opendl x d
  claimdl x q d := h.claimdl x q d ∘ k.claimdl x q d
  held q := (k.held q).trans (h.held q)

/-! #### The plain operations -/

/-- A change that leaves the controllers, the ports and the time base alone. -/
theorem elsewhere (h : s.ArmsNone t) (hw : u.windows = t.windows) (hp : u.ports = t.ports) (ht : u.time = t.time) :
    s.ArmsNone u :=
  h.trans
    { time := ht
      opendl := fun x _ => by rw [State.win, hw]; exact id
      claimdl := fun x q _ => by rw [State.claim, State.win, hw]; exact id
      held := fun q => by rw [State.port, hp]; exact .refl _ }

theorem modWin (h : s.ArmsNone t) (w : WinId) (f : WinCtl → WinCtl)
    (opendl : ∀ x d, (f x).prod.opendl = some d → x.prod.opendl = some d := by exact fun _ _ => id)
    (claimdl : ∀ (x : WinCtl) (q : PortId) d, (f x).claims[q].claimdl = some d → x.claims[q].claimdl = some d := by
      exact fun _ _ _ => id) :
    s.ArmsNone (t.modWin w f) := by
  refine h.trans ⟨rfl, fun x d => ?_, fun x q d => ?_, fun _ => .refl _⟩
  all_goals by_cases hx : x = w
  · subst hx
    rw [State.win_modWin_same]
    exact opendl _ d
  · rw [State.win_modWin_ne _ _ hx]
    exact id
  · subst hx
    rw [State.claim, State.win_modWin_same]
    exact claimdl _ q d
  · rw [State.claim, State.win_modWin_ne _ _ hx]
    exact id

theorem countExpiry (h : s.ArmsNone t) (w : WinId) : s.ArmsNone (t.countExpiry w) := h.modWin w _

theorem offer (h : s.ArmsNone t) (k : FaultKind) (w : Option WinId) (p : Option PortId) (l : Option Nat) :
    s.ArmsNone (t.offer k w p l) := h.elsewhere rfl rfl rfl

theorem modBank (h : s.ArmsNone t) (w : WinId) (b : BankId) (f : BankRec → BankRec) : s.ArmsNone (t.modBank w b f) :=
  h.elsewhere rfl rfl rfl

/-- A change of the producer record that cancels the open deadline. -/
theorem cancelOpen (h : s.ArmsNone t) (w : WinId) (f : ProducerRec → ProducerRec) (hf : ∀ r, (f r).opendl = none) :
    s.ArmsNone (t.modProd w f) :=
  h.modWin w _ fun x d hd => by simp [hf] at hd

theorem modClaim (h : s.ArmsNone t) (w : WinId) (p : PortId) (f : Claim → Claim)
    (claimdl : ∀ k d, (f k).claimdl = some d → k.claimdl = some d) : s.ArmsNone (t.modClaim w p f) := by
  refine h.modWin w _ (claimdl := fun x q d => ?_)
  by_cases hq : q = p
  · subst hq
    simpa [WinCtl.modClaim] using claimdl x.claims[q] d
  · rw [WinCtl.modClaim, vector_set_get_fin_ne _ _ hq]
    exact id

theorem modEntries (h : s.ArmsNone t) (p : PortId) (f : List Entry → List Entry)
    (held : ∀ es, ((f es).filter Entry.isHeld).Sublist (es.filter Entry.isHeld)) : s.ArmsNone (t.modEntries p f) := by
  refine h.trans ⟨rfl, fun _ _ => id, fun _ _ _ => id, fun q => ?_⟩
  by_cases hq : q = p
  · subst hq
    rw [State.port_modEntries_same]
    exact held _
  · rw [State.port_modEntries_ne _ _ hq]

theorem releaseEvent (h : s.ArmsNone t) (w : WinId) (p : PortId) : s.ArmsNone (t.releaseEvent w p) :=
  h.modEntries p _ (filter_held_release w)

/-! #### The three takings -/

theorem openExpiry (h : s.ArmsNone t) (w : WinId) : s.ArmsNone (t.openExpiry w) := by
  unfold State.openExpiry
  split
  · exact h.cancelOpen w _ fun _ => rfl
  · next b _ =>
    dsimp only
    split
    · exact ((((h.countExpiry w).modBank w b _).cancelOpen w _ fun _ => rfl).modWin w _).offer _ _ _ _
    · exact ((h.countExpiry w).modBank w b _).cancelOpen w _ fun _ => rfl

/-- The end of a claim cancels its deadline (R60, R106, R109). -/
theorem endClaim (h : s.ArmsNone t) (w : WinId) (p : PortId) : s.ArmsNone (t.modClaim w p Claim.ended) :=
  h.modClaim w p _ fun _ _ => nofun

theorem releaseSnapshot (h : s.ArmsNone t) (w : WinId) (p : PortId) : s.ArmsNone (t.releaseSnapshot w p) := by
  unfold State.releaseSnapshot
  refine State.ArmsNone.releaseEvent (.endClaim ?_ w p) w p
  split
  · exact h.modBank w _ _
  · exact h

theorem claimExpiry (h : s.ArmsNone t) (w : WinId) (p : PortId) : s.ArmsNone (t.claimExpiry w p) := by
  unfold State.claimExpiry
  dsimp only
  refine State.ArmsNone.offer (.countExpiry (.modClaim ?_ w p (fun k => { k with expired := true }) fun _ _ => id) w) _ _ _ _
  split
  · exact h.releaseSnapshot w p
  · exact h.endClaim w p

theorem claimDeadlineTaken (h : s.ArmsNone t) (w : WinId) (p : PortId) : s.ArmsNone (t.claimDeadlineTaken w p) := by
  unfold State.claimDeadlineTaken
  split
  · exact h.claimExpiry w p
  · exact h.modClaim w p _ fun _ _ => nofun

theorem holdExpiry (h : s.ArmsNone t) (p : PortId) (w : WinId) (e : Entry) : s.ArmsNone (t.holdExpiry p w e) := by
  rw [State.holdExpiry_eq]
  refine ((h.modEntries p _ fun es => ?_).modWin w _).offer _ _ _ _
  rw [filter_held_answer]
  exact List.tail_sublist _

theorem takeDeadline (s : State) (d : Deadline) : s.ArmsNone (s.takeDeadline d) := by
  unfold State.takeDeadline State.takeOpen State.takeClaim State.takeHold
  cases d with
  | openOf w =>
    dsimp only
    split
    · exact (refl s).openExpiry w
    · exact refl s
  | claimOf w p =>
    dsimp only
    split
    · exact (refl s).claimDeadlineTaken w p
    · exact refl s
  | holdOf p =>
    dsimp only
    split
    · exact refl s
    · split
      · split
        · exact (refl s).holdExpiry p _ _
        · exact refl s
      · exact refl s

theorem takeDeadlines (s : State) (ds : List Deadline) : s.ArmsNone (ds.foldl State.takeDeadline s) := by
  induction ds generalizing s with
  | nil => exact refl s
  | cons d ds ih => exact (takeDeadline s d).trans (ih _)

/-! #### What follows for the deadlines and the holds -/

theorem of_held (h : s.ArmsNone t) {e : Entry} (he : e ∈ (t.port p).entries) (hh : e.state = .held) :
    e ∈ (s.port p).entries :=
  (List.mem_filter.mp ((h.held p).subset (List.mem_filter.mpr ⟨he, decide_eq_true hh⟩))).1

/-- What is due was due. -/
theorem due (h : s.ArmsNone t) {d : Deadline} (hd : t.Due d) : s.Due d := by
  cases d with
  | openOf w => exact h.opendl w _ (h.time ▸ hd)
  | claimOf w p => exact h.claimdl w p _ (h.time ▸ hd)
  | holdOf p =>
    obtain ⟨e, he, hh, hdl⟩ := hd
    exact ⟨e, h.of_held he hh, hh, h.time ▸ hdl⟩

theorem holdsNamed (h : s.ArmsNone t) (hs : s.HoldsNamed) : t.HoldsNamed := fun p =>
  ⟨(h.held p).length_le.trans (hs p).1, fun _ he hh => (hs p).2 _ (h.of_held he hh) hh⟩

end State.ArmsNone

end Sys2Proof.Machine
end

section
/-! ### The increment (R155, R156, R159, R160)

A deadline that is not due is not taken, and one that is due is not due after its taking; nothing arms one in between. So the
increment takes each deadline due at the new count once, but for those that the commands next in the queue take. -/

namespace Sys2Proof.Machine

open Sys2Proof

set_option Elab.async false

section
variable {s : State} {d : Deadline}

/-! #### One deadline -/

/-- A deadline that is not due is not taken (R159). -/
theorem State.takeDeadline_of_not_due (hr : s.rstn = true) (h : ¬ s.Due d) : s.takeDeadline d = s := by
  have hexec : exec d.command s = .next s := by
    cases d with
    | openOf w => exact openDeadlineTaken.2 s w h
    | claimOf w p => exact Machine.claimDeadlineTaken.2 s w p h
    | holdOf p => exact holdDeadlineTaken.2 s p fun e he hh hd => h ⟨e, he, hh, hd⟩
  exact Host.Outcome.next.inj ((s.exec_deadline d hr).symm.trans hexec)

/-- An open deadline, taken, is armed no more (R43, R44). -/
theorem State.opendl_openExpiry (s : State) (w : WinId) : ((s.openExpiry w).win w).prod.opendl = none := by
  unfold State.openExpiry
  split
  · simp [State.modProd]
  · dsimp only
    split
    · simp [State.endSession, State.modProd, State.countDrop]
    · simp [State.modProd]

theorem State.claimdl_claimExpiry (s : State) (w : WinId) (p : PortId) : ((s.claimExpiry w p).claim w p).claimdl = none := by
  have hcount (v : State) : (v.countExpiry w).claim w p = v.claim w p := by simp [State.claim, State.countExpiry]
  unfold State.claimExpiry
  split
  · simp [hcount, State.releaseSnapshot, Claim.ended]
  · simp [hcount, Claim.ended]

/-- A claim deadline, taken, is armed no more (R64, R65, R109, R110). -/
theorem State.claimdl_claimDeadlineTaken (s : State) (w : WinId) (p : PortId) :
    ((s.claimDeadlineTaken w p).claim w p).claimdl = none := by
  unfold State.claimDeadlineTaken
  split
  · exact s.claimdl_claimExpiry w p
  · simp

/-- A port with one HELD entry has no other (R126). -/
theorem State.filter_held_of_named (hs : s.HoldsNamed) {p : PortId} {e : Entry} (he : e ∈ (s.port p).entries)
    (hh : e.state = .held) : (s.port p).entries.filter Entry.isHeld = [e] := by
  have hmem : e ∈ (s.port p).entries.filter Entry.isHeld := List.mem_filter.mpr ⟨he, decide_eq_true hh⟩
  obtain ⟨x, hx⟩ := List.length_eq_one_iff.mp (le_antisymm (hs p).1 (List.length_pos_of_mem hmem))
  rw [hx] at hmem ⊢
  rw [List.mem_singleton.mp hmem]

/-- After a hold deadline is taken the port holds nothing (R136). -/
theorem State.not_held_takeHold (hs : s.HoldsNamed) {p : PortId} {e : Entry} (he : e ∈ (s.port p).entries)
    (hh : e.state = .held) (hd : e.holddl = some s.time.stamp) :
    ((s.takeHold p).port p).entries.filter Entry.isHeld = [] := by
  have honly := State.filter_held_of_named hs he hh
  have hentry : s.heldEntry p = some e := by rw [State.heldEntry, ← List.head?_filter, honly]; rfl
  obtain ⟨w, hw⟩ := Option.ne_none_iff_exists'.mp ((hs p).2 e he hh)
  have htake : s.takeHold p = s.holdExpiry p w e := by simp [State.takeHold, hentry, hw, State.isDue, hd]
  rw [htake, State.holdExpiry_eq, State.offer_port, State.modWin_port, State.port_modEntries_same]
  simp [filter_held_answer, honly]

/-- A deadline that has been taken is not due (R159). -/
theorem State.not_due_takeDeadline (hs : s.HoldsNamed) : ¬ (s.takeDeadline d).Due d := by
  intro hafter
  have hbefore := (State.ArmsNone.takeDeadline s d).due hafter
  cases d with
  | openOf w =>
    have htake : s.takeDeadline (.openOf w) = s.openExpiry w := if_pos (by simpa [State.isDue, State.Due] using hbefore)
    rw [htake] at hafter
    exact nomatch (s.opendl_openExpiry w).symm.trans hafter
  | claimOf w p =>
    have htake : s.takeDeadline (.claimOf w p) = s.claimDeadlineTaken w p :=
      if_pos (by simpa [State.isDue, State.Due] using hbefore)
    rw [htake] at hafter
    exact nomatch (s.claimdl_claimDeadlineTaken w p).symm.trans hafter
  | holdOf p =>
    obtain ⟨e, he, hh, hd⟩ := hbefore
    obtain ⟨x, hx, hxh, -⟩ := hafter
    exact List.filter_eq_nil_iff.mp (State.not_held_takeHold hs he hh hd) x hx (decide_eq_true hxh)

/-! #### The deadlines one after another -/

/-- Of deadlines that are not due none is taken. -/
theorem State.takeDeadlines_of_none_due (hr : s.rstn = true) {ds : List Deadline} (h : ∀ x ∈ ds, ¬ s.Due x) :
    ds.foldl State.takeDeadline s = s := by
  induction ds with
  | nil => rfl
  | cons d ds ih =>
    obtain ⟨hd, hds⟩ := List.forall_mem_cons.mp h
    rw [List.foldl_cons, State.takeDeadline_of_not_due hr hd, ih hds]

/-- Of deadlines of which one alone is due that one is taken. -/
theorem State.takeDeadlines_of_one_due (hr : s.rstn = true) {ds : List Deadline} (hnodup : ds.Nodup) (hmem : d ∈ ds)
    (h : ∀ x, x ≠ d → ¬ s.Due x) : ds.foldl State.takeDeadline s = s.takeDeadline d := by
  induction ds with
  | nil => exact nomatch hmem
  | cons x ds ih =>
    obtain ⟨hx, hds⟩ := List.nodup_cons.mp hnodup
    rw [List.foldl_cons]
    by_cases hxd : x = d
    · subst hxd
      have hr' : (s.takeDeadline x).rstn = true := (congrArg Base.rstn (s.base_takeDeadline x)).trans hr
      exact State.takeDeadlines_of_none_due hr' fun y hy hdue =>
        h y (fun e => hx (e ▸ hy)) ((State.ArmsNone.takeDeadline s x).due hdue)
    · rw [State.takeDeadline_of_not_due hr (h x hxd)]
      exact ih hds ((List.mem_cons.mp hmem).resolve_left (Ne.symm hxd))

/-- Of the deadlines gone through none is due afterwards. -/
theorem State.not_due_takeDeadlines (hs : s.HoldsNamed) {ds : List Deadline} (hmem : d ∈ ds) :
    ¬ (ds.foldl State.takeDeadline s).Due d := by
  induction ds generalizing s with
  | nil => exact nomatch hmem
  | cons x ds ih =>
    rw [List.foldl_cons]
    rcases List.mem_cons.mp hmem with rfl | hmem
    · exact fun hdue => State.not_due_takeDeadline hs ((State.ArmsNone.takeDeadlines _ ds).due hdue)
    · exact ih ((State.ArmsNone.takeDeadline s x).holdsNamed hs) hmem

/-! #### The increment -/

theorem nodup_allDeadlines : allDeadlines.Nodup := by decide

/-- The deadlines that an increment goes through: those not left to the commands next in the queue (log 7). -/
def State.ownDeadlines (s : State) : List Deadline := allDeadlines.filter fun d => !(deadlinesNamed s.pending).contains d

theorem State.mem_ownDeadlines : d ∈ s.ownDeadlines ↔ d ∉ deadlinesNamed s.pending := by
  simp [State.ownDeadlines]

theorem State.nodup_ownDeadlines (s : State) : s.ownDeadlines.Nodup := nodup_allDeadlines.filter _

/-- The count rises, then the deadlines not left to commands are gone through (R156, R159). -/
theorem State.exec_stampIncrement (hr : s.rstn = true) :
    exec .stampIncrement s = .next (s.ownDeadlines.foldl State.takeDeadline s.counted) := by
  rw [exec, execStampIncrement, if_pos hr]
  rfl

end

/-- The increment where a deadline alone is due (R159). -/
theorem stampIncrement_takes_one {s : State} {d : Deadline} (hr : s.rstn = true) (hd : d ∉ deadlinesNamed s.pending)
    (h : ∀ x, x ≠ d → ¬ s.counted.Due x) : exec .stampIncrement s = exec d.command s.counted := by
  rw [State.exec_stampIncrement hr, State.exec_deadline s.counted d hr,
    State.takeDeadlines_of_one_due (s := s.counted) hr s.nodup_ownDeadlines (State.mem_ownDeadlines.mpr hd) h]

/-- Settles O3: the increment as `State.exec_stampIncrement` gives it, with none due, with one, or with any number; and the idle
step. -/
theorem stampIncrements : Obligations.StampIncrements := by
  refine ⟨fun s hr h => ?_, fun s d hr _ hd h => stampIncrement_takes_one hr hd h, fun s hr hs => ?_, fun s hq hr hp => ?_,
    fun s hq hr hp => ?_⟩
  · rw [State.exec_stampIncrement hr,
      State.takeDeadlines_of_none_due (s := s.counted) hr fun d hd hdue => State.mem_ownDeadlines.mp hd (h d hdue)]
    rfl
  · refine ⟨_, State.exec_stampIncrement hr, (State.ArmsNone.takeDeadlines _ _).time, fun d hdue => ?_⟩
    by_contra hd
    exact State.not_due_takeDeadlines (s := s.counted) hs (State.mem_ownDeadlines.mpr hd) hdue
  · simp [step, hq, State.refclkCycle, hr, hp]
  · simp [step, hq, State.refclkCycle, hr, hp, exec, execStampIncrement]

end Sys2Proof.Machine
end

section
/-! ### The fault unit: offers, and the commands of the fault queue (R166 to R168, R170, R189) -/

namespace Sys2Proof.Machine

open Sys2Proof

section
variable {s : State} {k : FaultKind} {w : Option WinId} {p : Option PortId} {loc : Option Nat}

/-! #### Offers (R167, R168) -/

/-- Kinds 1 to 10 are enabled by FMASK of the record's window (R167). -/
theorem State.faultEnabled_window {x : WinId} (hk : k.code ≤ 10) :
    s.faultEnabled k (some x) = (s.cfg x).fmask.getLsbD (k.code - 1) := by
  cases k
  case malformed | shadowAccess | straddle => exact absurd hk (by decide)
  all_goals rfl

/-- Kinds 11 to 13 are enabled by the global mask, whatever window the record names (R167). -/
theorem State.faultEnabled_global (hk : 11 ≤ k.code) : s.faultEnabled k w = s.faults.mask.getLsbD (k.code - 11) := by
  cases k
  case malformed | shadowAccess | straddle => rfl
  all_goals exact absurd hk (by decide)

theorem State.offer_of_disabled (h : s.faultEnabled k w = false) : s.offer k w p loc = s := by
  simp [State.offer, h]

theorem State.faults_offer_of_enabled (h : s.faultEnabled k w = true) :
    (s.offer k w p loc).faults = s.faults.take ⟨k, w, p, loc, s.time.stamp⟩ :=
  if_pos h

end

theorem FaultUnit.take_of_room {u : FaultUnit} (r : FaultRec) (h : u.queue.length < 16) :
    u.take r = { u with queue := u.queue ++ [r] } :=
  if_pos h

theorem FaultUnit.take_of_full {u : FaultUnit} (r : FaultRec) (h : 16 ≤ u.queue.length) :
    u.take r = { u with overrun := if u.overrun = 255 then 255 else u.overrun + 1 } := by
  rw [← satSucc_eq]
  exact if_neg (Nat.not_lt.mpr h)

/-- Settles O7: the enable of each kind, and what the fault unit takes of an enabled record. -/
theorem faultOffer : Obligations.FaultOffer := by
  refine ⟨fun s k w p loc => ⟨rfl, ?_, State.faultEnabled_global, State.offer_of_disabled, fun h hroom => ?_,
    fun h hfull => ?_⟩, rfl⟩
  · rintro x rfl hk
    exact State.faultEnabled_window hk
  · rw [State.faults_offer_of_enabled h, FaultUnit.take_of_room _ hroom]
  · rw [State.faults_offer_of_enabled h, FaultUnit.take_of_full _ hfull]

/-! #### FAULT PEEK, FAULT POP, FAULT CLEAR (R170, R189) -/

theorem FaultRec.page_zero (x : FaultRec) (n : Nat) : x.page n 0 =
    [BitVec.ofNat 8 x.kind.code, optByte (x.window.map Fin.val), optByte (x.port.map Fin.val)]
      ++ locationBytes x.location ++ [BitVec.ofNat 8 n] := rfl

theorem FaultRec.page_one (x : FaultRec) (n : Nat) :
    x.page n 1 = le32 x.stamp ++ [BitVec.ofNat 8 x.kind.code, BitVec.ofNat 8 n] := rfl

section
variable {s : State} {r : LinkReq} {x : FaultRec} {rest : List FaultRec}

theorem State.cmdFaultPeek_of_cons (hf : r.field.toNat ≤ 1) (hq : s.faults.queue = x :: rest) :
    s.cmdFaultPeek r = ⟨s, .done, x.page (rest.length + 1) r.field⟩ := by
  simp [State.cmdFaultPeek, Nat.not_lt.mpr hf, hq, State.replyData]

theorem State.cmdFaultPop_of_cons (hf : r.field.toNat ≤ 1) (hq : s.faults.queue = x :: rest) :
    s.cmdFaultPop r =
      ⟨{ s with faults := { s.faults with queue := rest } }, .done, x.page (rest.length + 1) r.field⟩ := by
  simp [State.cmdFaultPop, Nat.not_lt.mpr hf, hq]

theorem State.cmdFaultPeek_of_nil (hf : r.field.toNat ≤ 1) (hq : s.faults.queue = []) :
    s.cmdFaultPeek r = s.reply .empty := by
  simp [State.cmdFaultPeek, Nat.not_lt.mpr hf, hq]

theorem State.cmdFaultPop_of_nil (hf : r.field.toNat ≤ 1) (hq : s.faults.queue = []) :
    s.cmdFaultPop r = s.reply .empty := by
  simp [State.cmdFaultPop, Nat.not_lt.mpr hf, hq]

theorem State.cmdFaultPeek_of_field (hf : 1 < r.field.toNat) : s.cmdFaultPeek r = s.reply .badField := if_pos hf

theorem State.cmdFaultPop_of_field (hf : 1 < r.field.toNat) : s.cmdFaultPop r = s.reply .badField := if_pos hf

/-- The oldest record's page is returned; PEEK leaves the queue, POP removes the record (R170). -/
theorem faultPage_answers (h : s.LinkReady) (hf : r.field.toNat ≤ 1) (hq : s.faults.queue = x :: rest) :
    (∃ t, exec (.faultPeek r) s = .next t ∧ s.Answered t 0x40 .done (x.page (rest.length + 1) r.field) ∧
      s.apartFromAnswer t = s) ∧
    (∃ t, exec (.faultPop r) s = .next t ∧ s.Answered t 0x41 .done (x.page (rest.length + 1) r.field) ∧
      s.apartFromAnswer t = { s with faults := { s.faults with queue := rest } }) := by
  refine ⟨exec_answered_only rfl h.receives (.inl h.idle) (State.cmdFaultPeek_of_cons hf hq), ?_⟩
  obtain ⟨he, ha⟩ :=
    exec_answered (c := .faultPop r) rfl h.receives (.inl h.idle) (State.cmdFaultPop_of_cons hf hq) rfl rfl
  exact ⟨_, he, ha, rfl⟩

theorem faultClear_answers (h : s.LinkReady) :
    ∃ t, exec (.faultClear r) s = .next t ∧ s.Answered t 0x42 .done [] ∧
      s.apartFromAnswer t = { s with faults := { s.faults with queue := [], overrun := 0 } } := by
  obtain ⟨he, ha⟩ := exec_answered (s := s) (c := .faultClear r) rfl h.receives (.inl h.idle) rfl rfl rfl
  exact ⟨_, he, ha, rfl⟩

end

/-- Settles O52: the two pages of the oldest record, and the answers that leave the queue alone. -/
theorem faultCommands : Obligations.FaultCommands := by
  refine fun s r h => ⟨fun x rest hq => ⟨fun hf => ?_, fun hf => ?_⟩, fun hq hf => ⟨?_, ?_⟩, fun hf => ⟨?_, ?_⟩,
    faultClear_answers h⟩
  · rw [← FaultRec.page_zero, ← hf]
    exact faultPage_answers h (by simp [hf]) hq
  · rw [← FaultRec.page_one, ← hf]
    exact faultPage_answers h (by simp [hf]) hq
  · exact exec_answered_only rfl h.receives (.inl h.idle) (State.cmdFaultPeek_of_nil hf hq)
  · exact exec_answered_only rfl h.receives (.inl h.idle) (State.cmdFaultPop_of_nil hf hq)
  · exact exec_answered_only rfl h.receives (.inl h.idle) (State.cmdFaultPeek_of_field hf)
  · exact exec_answered_only rfl h.receives (.inl h.idle) (State.cmdFaultPop_of_field hf)

end Sys2Proof.Machine
end

section
/-! ### Ready lines and FLT (R163 to R165, R169)

The producer-ready condition against the dispatch it speaks of: a producer write meets a FILLING producer bank, or a FREE bank for
a new session, exactly when the condition holds. Then its entry is ANSWERED OKAY or DISPATCHED, and otherwise HELD or ANSWERED
REFUSED. -/

namespace Sys2Proof.Machine

open Sys2Proof

section
variable {s : State} {p : PortId} {w : WinId} {b : BankId}

/-! #### The lines (R163, R164, R169) -/

theorem State.rdy_iff (hr : s.rstn = true) : s.rdy p = true ↔ ∃ w, (s.win w).life = .active ∧
    (((s.cfg w).producer = p ∧ (s.cfg w).rdyProducer = true ∧ s.producerReady w = true) ∨
      (hasPort (s.cfg w).consumers p = true ∧ (s.cfg w).rdyConsumer = true ∧ s.consumerReady w p = true)) := by
  simp [State.rdy, hr, State.readyTerm, and_assoc]

theorem State.flt_iff (hr : s.rstn = true) : s.flt = true ↔ s.faults.queue ≠ [] := by
  simp [State.flt, hr]

theorem State.consumerReady_of_noCurrent (hm : (s.cfg w).mode = .snapshot) (h : s.NoCurrent w) :
    s.consumerReady w p = false := by
  simp only [State.consumerReady, hm, h.currentBank]

theorem State.consumerReady_of_current (hm : (s.cfg w).mode = .snapshot) (h : s.IsCurrent w b) :
    s.consumerReady w p = true ↔ (s.bank w b).seq ≠ (s.claim w p).lastseq := by
  simp only [State.consumerReady, hm, h.currentBank, decide_eq_true_eq]

theorem State.consumerReady_of_queue (hm : (s.cfg w).mode = .queue) :
    s.consumerReady w p = true ↔ (s.win w).order ≠ [] ∧ (s.claim w p).bank = none := by
  simp only [State.consumerReady, hm, Bool.and_eq_true, decide_eq_true_eq]

/-! #### The producer-ready condition (R165) -/

theorem State.producerReady_of_bank (hb : (s.win w).prod.bank = some b) :
    s.producerReady w = true ↔ (s.bank w b).state = .filling := by
  cases hm : (s.cfg w).mode <;> simp [State.producerReady, hm, hb]

/-- With no producer bank the condition is that a FREE bank is found; in SNAPSHOT one always stands ready (R26). -/
theorem State.producerReady_of_noBank (hb : (s.win w).prod.bank = none)
    (hfree : (s.cfg w).mode = .snapshot → ¬ s.NoFree w) : s.producerReady w = true ↔ ∃ b, s.firstFree w = some b := by
  cases hm : (s.cfg w).mode with
  | snapshot =>
    have hfound : s.firstFree w ≠ none := fun hnone =>
      hfree hm fun b hlt hx => List.find?_eq_none.mp hnone b ((WindowRec.mem_bankIds _ b).mpr hlt) (decide_eq_true hx)
    simpa [State.producerReady, hm, hb] using Option.ne_none_iff_exists'.mp hfound
  | queue => simp [State.producerReady, hm, hb, Option.isSome_iff_exists]

end

/-! #### What tells a write taken from one held or refused -/

/-- The write that port p dispatches is taken: answered OKAY, or sent to memory for a bank (R30, R32). -/
def State.TakesWrite (s t : State) (p : PortId) : Prop :=
  s.AnswersEntry t p .okay [] ∨ ∃ parts b trigger, s.SendsEntry t p parts [] (some b) trigger

/-- An entry that its dispatch has answered OKAY or sent to memory. -/
def Entry.Taken (e : Entry) : Prop := e.state = .dispatched ∨ (e.state = .answered ∧ e.code = some .okay)

/-- Two changes of the first element that meets a test agree on that element when they give the same list. -/
theorem modFirst_inj {α : Type} {test : α → Bool} {f g : α → α} {l : List α} {e : α} (h : l.find? test = some e)
    (heq : modFirst test f l = modFirst test g l) : f e = g e := by
  induction l with
  | nil => cases h
  | cons x l ih =>
    by_cases hx : test x = true
    · rw [List.find?_cons_of_pos hx, Option.some.injEq] at h
      subst h
      simp only [modFirst, hx, if_true] at heq
      exact (List.cons.inj heq).1
    · rw [List.find?_cons_of_neg hx] at h
      simp only [modFirst, hx] at heq
      exact ih h (List.cons.inj heq).2

section
variable {s t u : State} {p : PortId} {e : Entry} {w : WinId} {b : BankId}

theorem State.TakesWrite.entry {f : Entry → Entry} (h : s.TakesWrite t p) (hd : s.Dispatches p e)
    (ht : t.port p = { s.port p with entries := modFirst Entry.isWaiting f (s.port p).entries }) : (f e).Taken := by
  obtain h | ⟨parts, b, trigger, h⟩ := h
  · have hfe := modFirst_inj hd.oldest (congrArg PortUnit.entries (ht.symm.trans h.port))
    exact .inr ⟨congrArg Entry.state hfe, congrArg Entry.code hfe⟩
  · have hfe := modFirst_inj hd.oldest (congrArg PortUnit.entries (ht.symm.trans h.port))
    exact .inl (congrArg Entry.state hfe)

theorem State.HoldsEntry.not_takesWrite (h : s.HoldsEntry t p w) (hd : s.Dispatches p e) : ¬ s.TakesWrite t p := fun ht => by
  simpa [Entry.Taken] using ht.entry hd h.port

theorem State.AnswersEntry.not_takesWrite (h : s.AnswersEntry t p .refused []) (hd : s.Dispatches p e) :
    ¬ s.TakesWrite t p := fun ht => by
  simpa [Entry.Taken] using ht.entry hd h.port

/-! #### A write to a FILLING bank is taken (R28 to R32, R91) -/

theorem State.steerWrite_takes (hp : u.ports = s.ports) (hm : u.mport = s.mport) :
    s.TakesWrite ((u.steerWrite w p b e).1.settle p (u.steerWrite w p b e).2) p := by
  obtain ⟨hports, hmport⟩ : (u.testTrigger w b e.txn).ports = u.ports ∧ (u.testTrigger w b e.txn).mport = u.mport := by
    unfold State.testTrigger
    split <;> exact ⟨rfl, rfl⟩
  exact .inr ⟨_, _, _, sendsEntry_settle (u := (u.steerWrite w p b e).1) (hports.trans hp) (hmport.trans hm) ..⟩

theorem State.overlayWrite_takes {x : Txn} (hp : u.ports = s.ports)
    (hh : ∀ e ∈ (s.port (u.cfg w).producer).entries, e.state ≠ .held) :
    s.TakesWrite ((u.overlayWrite w b x).1.settle p (u.overlayWrite w b x).2) p := by
  by_cases htrig : isTrigger (u.cfg w) x = true
  · rw [State.overlayWrite_trigger htrig]
    refine .inl (answersEntry_settle ?_ ..)
    have hdecide : (((u.trigger w b).writeSteered w).commitDecision w b).ports = u.ports :=
      State.commitDecision_ports (s := (u.trigger w b).writeSteered w) (by simpa [State.port, hp] using hh)
    split
    · exact hdecide.trans hp
    · exact hp
  · rw [State.overlayWrite_plain (Bool.eq_false_iff.mpr htrig)]
    exact .inl (answersEntry_settle hp ..)

theorem State.writeToFilling_takes (hp : u.ports = s.ports) (hm : u.mport = s.mport)
    (hh : ∀ e ∈ (s.port (u.cfg w).producer).entries, e.state ≠ .held) :
    s.TakesWrite ((u.writeToFilling w p b e).1.settle p (u.writeToFilling w p b e).2) p := by
  unfold State.writeToFilling
  split
  · exact State.overlayWrite_takes hp hh
  · exact State.steerWrite_takes hp hm

/-! #### A write that finds no bank is not (R33, R93, R94) -/

theorem State.held_not_takes (hd : s.Dispatches p e) : ¬ s.TakesWrite (s.settle p (.held w)) p :=
  State.HoldsEntry.not_takesWrite (holdsEntry_settle (w := w) rfl rfl) hd

theorem State.noFreeBank_not_takes (hd : s.Dispatches p e) :
    ¬ s.TakesWrite ((s.noFreeBank w).1.settle p (s.noFreeBank w).2) p := by
  unfold State.noFreeBank
  split
  · exact State.AnswersEntry.not_takesWrite (answersEntry_settle (s := s) (u := (s.refuseFull w).1) rfl ..) hd
  · exact State.held_not_takes hd
  · exact State.held_not_takes hd

/-- A producer write is taken exactly when the producer-ready condition holds (R28, R91, R165). -/
theorem State.producerWrite_takes_iff (h : s.ProducerDispatch p e w)
    (hfree : (s.cfg w).mode = .snapshot → (s.win w).prod.bank = none → ¬ s.NoFree w) :
    s.TakesWrite ((s.producerWrite w p e).1.settle p (s.producerWrite w p e).2) p ↔ s.producerReady w = true := by
  have hh : ∀ e ∈ (s.port (s.cfg w).producer).entries, e.state ≠ .held := h.role ▸ h.dispatches.noHold
  cases hb : (s.win w).prod.bank with
  | some b =>
    rw [State.producerReady_of_bank hb]
    by_cases hx : (s.bank w b).state = .filling
    · rw [State.producerWrite_filling hb hx]
      exact iff_of_true (State.writeToFilling_takes rfl rfl hh) hx
    · rw [State.producerWrite_closing hb hx]
      exact iff_of_false (State.held_not_takes h.dispatches) hx
  | none =>
    rw [State.producerReady_of_noBank hb fun hm => hfree hm hb]
    cases hf : s.firstFree w with
    | some b =>
      rw [State.producerWrite_opens hb hf]
      exact iff_of_true (State.writeToFilling_takes (u := s.openSession w b) rfl rfl hh) ⟨b, rfl⟩
    | none =>
      rw [State.producerWrite_full hb hf]
      exact iff_of_false (State.noFreeBank_not_takes h.dispatches) (by simp)

end

/-- Settles O41: the lines and conditions as defined, and the producer-ready condition by what DISPATCH does. -/
theorem readyLines : Obligations.ReadyLines := by
  refine ⟨fun s p hr => State.rdy_iff hr, fun s w p => ⟨fun hm => ⟨State.consumerReady_of_noCurrent hm, fun b hb =>
    State.consumerReady_of_current hm hb⟩, State.consumerReady_of_queue⟩, fun s hr => State.flt_iff hr,
    fun s p e w h hk hfree => ?_⟩
  rw [← State.producerWrite_takes_iff h hfree, exec_producerWrite h hk]
  exact ⟨fun ht => ⟨_, rfl, ht⟩, fun ⟨_, rfl, ht⟩ => ht⟩

end Sys2Proof.Machine
end

section
/-! ### BUSY follows the drains (R181)

A drain begins only in a request that finds BUSY off, and so no window draining: the requests that run while BUSY is on are
reads. A drain ends with its completion, which takes the window out of the long-operation set. -/

namespace Sys2Proof.Machine

open Sys2Proof

set_option Elab.async false

/-- A chain of changes of one window leaves the link alone. -/
theorem State.Acts.link {s t : State} {w : WinId} (h : s.Acts w t) : t.link = s.link := by
  induction h with
  | refl => rfl
  | _ => assumption

/-! #### The requests that run while BUSY is on (R180) -/

section
variable (s : State) (r : LinkReq)

theorem State.withWindow_state {s : State} {r : LinkReq} {run : WinId → Reply} (h : ∀ w, (run w).state = s) :
    (s.withWindow r run).state = s := by
  unfold State.withWindow
  split
  · exact h _
  · rfl

theorem State.cmdStageRead_state : (s.cmdStageRead r).state = s := by
  refine State.withWindow_state fun w => ?_
  split <;> rfl

theorem State.cmdWindowRead_state : (s.cmdWindowRead r).state = s := by
  refine State.withWindow_state fun w => ?_
  split <;> rfl

theorem State.cmdBankRead_state : (s.cmdBankRead r).state = s := by
  refine State.withWindow_state fun w => ?_
  split_ifs <;> rfl

theorem State.cmdClaimRead_state : (s.cmdClaimRead r).state = s := by
  refine State.withWindow_state fun w => ?_
  split
  · split <;> rfl
  · rfl

theorem State.cmdPortRead_state : (s.cmdPortRead r).state = s := by
  unfold State.cmdPortRead
  split <;> rfl

theorem State.cmdCounterRead_state : (s.cmdCounterRead r).state = s := by
  refine State.withWindow_state fun w => ?_
  split <;> rfl

theorem runsWhileBusy_iff (op : Byte) :
    runsWhileBusy op = true ↔ op ∈ [0x01#8, 0x11#8, 0x30#8, 0x31#8, 0x32#8, 0x33#8, 0x34#8, 0x50#8] :=
  List.contains_iff_mem

/-- STATUS and the read commands leave the state alone. -/
theorem State.runOpcode_state {op : Byte} (h : runsWhileBusy op = true) : (s.runOpcode op r).state = s := by
  simp only [runsWhileBusy_iff, List.mem_cons, List.not_mem_nil, or_false] at h
  rcases h with rfl | rfl | rfl | rfl | rfl | rfl | rfl | rfl
  · rfl
  · exact s.cmdStageRead_state r
  · exact s.cmdWindowRead_state r
  · exact s.cmdBankRead_state r
  · exact s.cmdClaimRead_state r
  · exact s.cmdPortRead_state r
  · exact s.cmdCounterRead_state r
  · rfl

end

/-- A new long-operation record agrees with the drains when every draining window is one of the command's. -/
theorem State.busyAgrees_recordLongOp {s : State} {op : Byte} {ws : List WinId}
    (h : ∀ w, (s.win w).life.draining = true → w ∈ ws) : (s.recordLongOp op ws).BusyAgrees where
  draining w := List.mem_filter.trans ⟨And.right, fun hd => ⟨h w hd, hd⟩⟩
  busy := decide_eq_true_iff

namespace State.BusyAgrees

variable {s t : State}

/-- The agreement reads BUSY, the long-operation record and which windows drain. -/
theorem of_same (h : s.BusyAgrees) (busy : t.link.busy = s.link.busy) (longOp : t.link.longOp = s.link.longOp)
    (draining : ∀ w, (t.win w).life.draining = (s.win w).life.draining) : t.BusyAgrees where
  draining w := by rw [longOp, draining]; exact h.draining w
  busy := by rw [busy, longOp]; exact h.busy

/-- With BUSY off no window drains. -/
theorem not_draining (h : s.BusyAgrees) (idle : s.link.busy = false) (w : WinId) : (s.win w).life.draining = false := by
  have hnil : s.link.longOp.windows = [] := by
    by_contra hne
    exact Bool.false_ne_true (idle.symm.trans (h.busy.mpr hne))
  rw [← Bool.not_eq_true, ← h.draining, hnil]
  exact List.not_mem_nil

theorem acts (h : s.BusyAgrees) {w : WinId} (ha : s.Acts w t) : t.BusyAgrees :=
  h.of_same (congrArg Link.busy ha.link) (congrArg Link.longOp ha.link) fun x => congrArg Life.draining (ha.life x)

/-- A change of one controller, to a lifecycle state that drains exactly if the former one does. -/
theorem modWin (h : s.BusyAgrees) {w : WinId} {f : WinCtl → WinCtl}
    (hf : (f (s.win w)).life.draining = (s.win w).life.draining) : (s.modWin w f).BusyAgrees := by
  refine h.of_same rfl rfl fun x => ?_
  by_cases hx : x = w
  · subst hx
    rw [State.win_modWin_same, hf]
  · rw [State.win_modWin_ne _ _ hx]

/-! #### Drains and completions -/

/-- The end of a drain takes its window out of the long-operation set (R181). -/
theorem drainComplete (h : s.BusyAgrees) {w : WinId} (hd : (s.win w).life.draining = true) :
    (s.drainComplete w).BusyAgrees := by
  obtain ⟨hwindows, hbusy, _⟩ := Link.drainEnded_of_mem ((h.draining w).mpr hd)
  refine ⟨fun x => ?_, ?_⟩
  · rw [State.drainComplete_link, hwindows, h.draining]
    by_cases hx : x = w
    · subst hx
      rw [State.drainComplete_win_same]
      cases hl : (s.win x).life <;> simp [Life.afterDrain, Life.draining]
    · rw [State.drainComplete_win_ne _ hx]
      exact and_iff_left hx
  · rw [State.drainComplete_link, hbusy, Ne, List.eq_nil_iff_forall_not_mem]
    simp [hwindows]

theorem drainCheck (h : s.BusyAgrees) (w : WinId) : (s.drainCheck w).BusyAgrees := by
  unfold State.drainCheck
  split
  · next hd => exact h.drainComplete (Bool.and_eq_true_iff.mp hd).1
  · exact h

theorem opDone (h : s.BusyAgrees) (w : WinId) : (s.opDone w).BusyAgrees :=
  (h.acts (State.Acts.refl.opEnded (w := w))).drainCheck w

theorem startHead (h : s.BusyAgrees) : s.startHead.BusyAgrees :=
  have ⟨_, ha⟩ := State.Acts.exists_startHead s
  h.acts ha

theorem modJobs (h : s.BusyAgrees) (f : List Job → List Job) : (s.modJobs f).BusyAgrees := h.of_same rfl rfl fun _ => rfl

theorem windowDone (h : s.BusyAgrees) (w : WinId) (p : PortId) (e : Entry) : (s.windowDone w p e).BusyAgrees := by
  rcases State.Acts.windowDone s w p e with ha | ⟨u, ha, hu⟩
  · exact h.acts ha
  · rw [hu]
    exact (h.acts ha).opDone w

theorem engineCompletion (h : s.BusyAgrees) (w : WinId) (ok : Bool) (rdata : Burst) :
    (s.engineCompletion w ok rdata).BusyAgrees := by
  unfold State.engineCompletion
  split
  · exact h.opDone w
  · next j rest hj =>
    split_ifs
    · exact ((h.modJobs _).opDone w).startHead
    · exact (((h.modJobs _).acts (State.Acts.refl.mergeFailure j rfl)).opDone w).startHead
    · split
      · exact (h.acts (State.Acts.refl.granuleFetched hj rfl rdata)).opDone w
      · unfold State.granuleStored
        dsimp only
        split
        · exact (((h.modJobs _).acts (State.Acts.refl.mergeSuccess _ rfl)).opDone w).startHead
        · exact (h.modJobs _).startHead.opDone w
      · exact h.opDone w

theorem route (h : s.BusyAgrees) (o : Issue) (ok : Bool) (rdata : Burst) : (s.route o ok rdata).BusyAgrees := by
  unfold State.route
  split
  · unfold State.portCompletion
    split
    · exact h
    · have hentries : ∀ p f, (s.modEntries p f).BusyAgrees := fun p f => h.of_same rfl rfl fun _ => rfl
      dsimp only
      split
      · split
        · exact (hentries _ _).windowDone _ _ _
        · exact hentries _ _
      · exact hentries _ _
  · split
    · exact h.engineCompletion _ ok rdata
    · exact h

/-! #### Deadlines -/

theorem takeDeadline (h : s.BusyAgrees) (d : Deadline) : (s.takeDeadline d).BusyAgrees :=
  have ⟨_, ha⟩ := State.Acts.exists_takeDeadline s d
  h.acts ha

theorem takeDeadlines (ds : List Deadline) (h : s.BusyAgrees) : (ds.foldl State.takeDeadline s).BusyAgrees := by
  induction ds generalizing s with
  | nil => exact h
  | cons d ds ih => exact ih (h.takeDeadline d)

theorem increment (h : s.BusyAgrees) : s.increment.BusyAgrees :=
  takeDeadlines _ (s := { s with time := s.time.tick }) (h.of_same rfl rfl fun _ => rfl)

/-! #### Requests and frames -/

/-- A request executed with BUSY off (R24, R180, R181, R184). -/
theorem request (h : s.BusyAgrees) (idle : s.link.busy = false) (hr : s.Request t) : t.BusyAgrees := by
  have hnone := h.not_draining idle
  cases hr with
  | unchanged => exact h
  | enable w off valid =>
    have htaken : (s.takeRecords w).BusyAgrees := by
      rw [State.takeRecords_eq]
      exact h.of_same rfl rfl fun _ => rfl
    have hwin : (s.takeRecords w).win w = s.win w := by
      rw [State.takeRecords_eq]
      rfl
    exact htaken.modWin (by rw [hwin, off]; rfl)
  | drain w target op active draining =>
    refine State.busyAgrees_recordLongOp fun x hx => List.mem_singleton.mpr ?_
    by_contra hne
    rw [State.drainEntry_win_ne _ draining hne, hnone] at hx
    cases hx
  | retire w suspended =>
    exact (h.modWin (f := fun x => { x with life := .off }) (by rw [suspended]; rfl)).of_same rfl rfl fun _ => rfl
  | resume w suspended => exact h.modWin (by rw [suspended]; rfl)
  | restart =>
    refine State.busyAgrees_recordLongOp fun x hx => ?_
    by_contra hne
    have hrestarts := s.restarts_foldl s.activeWindows ((List.nodup_finRange 16).filter _)
    rw [hrestarts.otherWin x hne, hnone] at hx
    cases hx
  | clearCounters w => exact h.modWin rfl
  | _ => exact h.of_same rfl rfl fun _ => rfl

/-- Check 1 of R180 keeps a request that could start a drain from running while BUSY is on. -/
theorem executeRequest (h : s.BusyAgrees) (op : Byte) (r : LinkReq) :
    (s.executeRequest op fun t => t.runOpcode op r).BusyAgrees := by
  unfold State.executeRequest
  split
  · exact h.of_same rfl rfl fun _ => rfl
  · next hcheck =>
    have hran : (s.runOpcode op r).state.BusyAgrees := by
      cases hb : s.link.busy with
      | false => exact h.request hb (s.request_runOpcode r op)
      | true =>
        have hop : runsWhileBusy op = true := by simpa [hb] using hcheck
        rw [s.runOpcode_state r hop]
        exact h
    exact hran.of_same rfl rfl fun _ => rfl

theorem frame (h : s.BusyAgrees) (op : Byte) (r : LinkReq) : (s.frame op fun t => t.runOpcode op r).BusyAgrees := by
  have hended : (s.frameEnded Config.frameClocks).BusyAgrees := h.of_same rfl rfl fun _ => rfl
  unfold State.frame
  split
  · exact hended.executeRequest op r
  · split
    · exact h.of_same rfl rfl fun _ => rfl
    · exact h

theorem csnRise (h : s.BusyAgrees) : s.csnRise.BusyAgrees := by
  unfold State.csnRise
  dsimp only
  split
  · exact h.of_same rfl rfl fun _ => rfl
  · have hended : (s.frameEnded s.link.receiver.count).BusyAgrees := h.of_same rfl rfl fun _ => rfl
    split
    · exact hended.executeRequest _ _
    · exact hended.of_same rfl rfl fun _ => rfl

theorem serialFrame (h : s.BusyAgrees) (bits : List Bool) : (s.serialFrame bits).BusyAgrees :=
  csnRise (h.of_same rfl rfl fun _ => rfl)

/-! #### The commands -/

/-- Where every window is OFF and nothing is awaited: after the fall and the release of RSTn. -/
theorem of_off (hoff : ∀ w, (t.win w).life = .off) (busy : t.link.busy = false) (windows : t.link.longOp.windows = []) :
    t.BusyAgrees where
  draining w := by simp [hoff, windows, Life.draining]
  busy := by simp [busy, windows]

theorem exec {c : Instr} (h : s.BusyAgrees) (hc : Machine.exec c s = .next t) : t.BusyAgrees := by
  by_cases ho : opcodeOf c = none
  · cases c with
    | rstnAssert =>
      cases hc
      exact of_off (fun w => by simp [State.win, WinCtl.inReset]) rfl rfl
    | rstnRelease csnLow =>
      cases hc
      split
      · exact h
      · exact of_off (fun w => congrArg WinCtl.life (reset_win w)) rfl rfl
    | accept p x =>
      cases hc
      split
      · exact h.of_same rfl rfl fun _ => rfl
      · exact h
    | dispatch p =>
      cases hc
      split
      · exact h
      · next e _ =>
        have ⟨_, ha⟩ := State.Acts.exists_treat s p e
        exact h.acts (ha.settle p _)
    | responseReturn p =>
      cases hc
      repeat' split
      all_goals exact h.of_same rfl rfl fun _ => rfl
    | grant =>
      cases hc
      unfold State.grantTo
      repeat' split
      all_goals exact h.of_same rfl rfl fun _ => rfl
    | memoryCompletion ok rdata =>
      cases hc
      split
      · next o rest _ _ =>
        exact route (s := { s with mport := { s.mport with outstanding := rest } }) (h.of_same rfl rfl fun _ => rfl) o ok rdata
      · exact h
    | stampIncrement =>
      cases hc
      split
      · exact h.increment
      · exact h
    | openDeadline w =>
      cases hc
      split
      · exact h.takeDeadline (.openOf w)
      · exact h
    | claimDeadline w p =>
      cases hc
      split
      · exact h.takeDeadline (.claimOf w p)
      · exact h
    | holdDeadline p =>
      cases hc
      split
      · exact h.takeDeadline (.holdOf p)
      · exact h
    | frameError bits =>
      cases hc
      split
      · exact h.serialFrame bits
      · exact h
    | csnRiseWithoutFrame =>
      cases hc
      split
      · exact h.of_same rfl rfl fun _ => rfl
      · exact h
    | _ => cases ho
  · obtain ⟨op, r, hop, hreq⟩ := requestOf_of_opcode ho
    rw [exec_request s hop hreq] at hc
    cases hc
    exact h.frame op r

end State.BusyAgrees

/-- Settles O58: the command of the step, or the cycle of an idle part, by the lemmas of `State.BusyAgrees`. -/
theorem busyFollowsDrains : Obligations.BusyFollowsDrains := by
  intro s t h hs
  unfold step at hs
  split at hs
  · cases hs
    unfold State.refclkCycle
    split_ifs
    · exact h.of_same rfl rfl fun _ => rfl
    · exact h.increment
    · exact h
  · next c rest _ =>
    have hrest : State.BusyAgrees { s with pending := rest } := h.of_same rfl rfl fun _ => rfl
    exact hrest.exec hs

end Sys2Proof.Machine
end

section
/-! ### Frames bit by bit, and the request word (R176 to R178)

What the receiver holds after the clocks of a frame, what the rise of CSn then does, and that the bits of a request word spell
the word again. -/

namespace Sys2Proof.Machine

open Sys2Proof

set_option Elab.async false

/-! #### The receiver (R176, R177) -/

/-- In a frame each clock shifts in one bit and counts up to 255. -/
theorem Receiver.clocks_inProgress (bits : List Bool) {x : Receiver} (h : x.inProgress = true) (hc : x.count ≤ 255) :
    bits.foldl (fun x b => x.sckRise b) x = { x with count := min (x.count + bits.length) 255, bits := x.bits ++ bits } := by
  induction bits generalizing x with
  | nil => simp [Nat.min_eq_left hc]
  | cons b bits ih =>
    have hb : x.sckRise b = { x with count := min (x.count + 1) 255, bits := x.bits ++ [b] } := by
      simp [Receiver.sckRise, h, Config.clockCountMax]
    have hcount : min (min (x.count + 1) 255 + bits.length) 255 = min (x.count + (bits.length + 1)) 255 := by omega
    rw [List.foldl_cons, ih (by rw [hb]; exact h) (by rw [hb]; exact Nat.min_le_right _ _), hb]
    simp [hcount]

/-- The receiver after CSn falls and the clocks of a frame. -/
theorem Receiver.clocks_csnFall (bits : List Bool) {x : Receiver} (h : x.awaitRise = false) :
    bits.foldl (fun x b => x.sckRise b) x.csnFall = ⟨true, min bits.length 255, bits, false⟩ := by
  have hfall : x.csnFall = ⟨true, 0, [], false⟩ := by simp [Receiver.csnFall, h]
  rw [hfall, Receiver.clocks_inProgress bits rfl (Nat.zero_le _)]
  simp

/-! #### The rise of CSn (R178) -/

section
variable {s : State} {bits : List Bool}

theorem State.receives_iff : s.receives = true ↔ s.rstn = true ∧ s.link.receiver.awaitRise = false := by
  simp [State.receives]

/-- The rise of CSn finds the bits of the frame. -/
theorem State.serialFrame_eq (h : s.receives = true) :
    s.serialFrame bits = (s.modReceiver fun _ => ⟨true, min bits.length 255, bits, false⟩).csnRise := by
  rw [State.serialFrame]
  simp only [State.modReceiver, Receiver.clocks_csnFall bits (State.receives_iff.mp h).2]

/-- A count of 0 is no frame. -/
theorem State.serialFrame_nil (h : s.receives = true) : s.serialFrame [] = s.csnRisen :=
  State.serialFrame_eq h

/-- A count of 64 delivers the request of the frame's word. -/
theorem State.serialFrame_complete (h : s.receives = true) (hlen : bits.length = 64) :
    s.serialFrame bits =
      s.frame (wordOpcode (wordOfBits bits)) fun t =>
        t.runOpcode (wordOpcode (wordOfBits bits)) (wordRequest (wordOfBits bits)) := by
  rw [State.serialFrame_eq h, State.frame, if_pos h, hlen]
  rfl

/-- Any other count is answered FRAMEERR, whatever BUSY is. -/
theorem State.serialFrame_discarded (h : s.receives = true) (hzero : bits.length ≠ 0) (hlen : bits.length ≠ 64) :
    s.serialFrame bits = (s.frameEnded (min bits.length 255)).setLatch .frameError := by
  have h0 : min bits.length 255 ≠ 0 := by omega
  have h64 : min bits.length 255 ≠ 64 := by omega
  rw [State.serialFrame_eq h]
  simp [State.csnRise, State.modReceiver, State.frameEnded, State.setLatch, Config.frameClocks, h0, h64]

end

/-- Settles O42. -/
theorem framesDiscarded : Obligations.FramesDiscarded := by
  refine ⟨fun s bits h hzero hlen => ?_, fun s h => ?_, fun s h => ?_⟩
  · refine ⟨(s.frameEnded (min bits.length 255)).setLatch .frameError, ?_, rfl, rfl, rfl, rfl⟩
    simp [exec, execFrameError, (State.receives_iff.mp h).1, State.serialFrame_discarded h hzero hlen]
  · simp [exec, execFrameError, (State.receives_iff.mp h).1, State.serialFrame_nil h, State.csnRisen]
  · simp [exec, execCsnRiseWithoutFrame, h, State.csnRisen]

/-! #### The bits of a byte and of a word (R177) -/

/-- The last bit of a byte's eight to travel is its least significant one. -/
theorem getLsbD_byteOfBits (bits : List Bool) {i : Nat} (h : i < 8) :
    (byteOfBits bits).getLsbD i = bits.reverse.getD i false := by
  induction bits using List.reverseRecOn generalizing i with
  | nil => simp [byteOfBits]
  | append_singleton bits b ih =>
    have hlast : byteOfBits (bits ++ [b]) = byteOfBits bits <<< 1 ||| (if b then 1#8 else 0#8) := by
      simp [byteOfBits]
    rw [hlast, List.reverse_append]
    cases i with
    | zero => cases b <;> simp
    | succ i =>
      have hi : i < 8 := by omega
      have htail : (byteOfBits bits)[i] = bits.reverse.getD i false := ih hi
      cases b <;> simp [h, htail]

theorem byteOfBits_bitsOfByte (x : Byte) : byteOfBits (bitsOfByte x) = x := by
  have hrev : (bitsOfByte x).reverse = (List.range 8).map x.getLsbD := rfl
  refine BitVec.eq_of_getLsbD_eq fun i hi => ?_
  rw [getLsbD_byteOfBits _ hi, hrev]
  simp [List.getD, hi]

theorem length_bitsOfWord (x : BitVec 64) : (bitsOfWord x).length = 64 := rfl

theorem frameByte_bitsOfWord (x : BitVec 64) {k : Nat} (h : k < 8) : frameByte (bitsOfWord x) k = x.extractLsb' (8 * k) 8 := by
  have hbits : ((bitsOfWord x).drop (8 * k)).take 8 = bitsOfByte (x.extractLsb' (8 * k) 8) := by
    interval_cases k <;> rfl
  rw [frameByte, hbits, byteOfBits_bitsOfByte]

/-- The bits of a request word, clocked in, are that word. -/
theorem wordOfBits_bitsOfWord (x : BitVec 64) : wordOfBits (bitsOfWord x) = x := by
  refine BitVec.eq_of_getLsbD_eq fun i hi => ?_
  have hk : i / 8 < 8 := by omega
  have hi' : 8 * (i / 8) + i % 8 = i := Nat.div_add_mod i 8
  rw [wordOfBits, getLsbD_wordOfBytes _ hi]
  simp [List.getD, hk, frameByte_bitsOfWord x hk, Nat.mod_lt, hi']

/-! #### The command of a request (R177, 11.3) -/

theorem isCommandOpcode_of_toNat {op : Byte} {n : Nat} (h : op.toNat = n) :
    isCommandOpcode op = isCommandOpcode (BitVec.ofNat 8 n) := by
  rw [← h, BitVec.ofNat_toNat, BitVec.setWidth_eq]

/-- An opcode outside 11.3 is the command UNDEFINED_OPCODE. -/
theorem linkCommand_of_not_command {op : Byte} (h : isCommandOpcode op = false) (r : LinkReq) :
    linkCommand op r = .undefinedOpcode op r := by
  unfold linkCommand
  split
  case h_21 => rfl
  all_goals next hop => exact absurd (h.symm.trans (isCommandOpcode_of_toNat hop)) (by decide)

/-- An opcode outside 11.3 is answered BADFIELD (R180, check 2). -/
theorem State.runOpcode_of_not_command {op : Byte} (h : isCommandOpcode op = false) (s : State) (r : LinkReq) :
    s.runOpcode op r = s.reply .badField := by
  unfold State.runOpcode
  split
  case h_21 => rfl
  all_goals next hop => exact absurd (h.symm.trans (isCommandOpcode_of_toNat hop)) (by decide)

/-- The command of a request has the request's opcode. -/
theorem opcodeOf_linkCommand (op : Byte) (r : LinkReq) : opcodeOf (linkCommand op r) = some op := by
  unfold linkCommand
  split
  case h_21 => rfl
  all_goals next hop => exact congrArg some (BitVec.eq_of_toNat_eq hop.symm)

/-- The command of a request has the request's other seven bytes. -/
theorem requestOf_linkCommand (op : Byte) (r : LinkReq) : requestOf (linkCommand op r) = some r := by
  unfold linkCommand
  split <;> rfl

/-- The opcode and the other seven bytes of a command name it. -/
theorem linkCommand_of_request {c : Instr} {op : Byte} {r : LinkReq} (hc : c.wellFormed = true) (ho : opcodeOf c = some op)
    (hr : requestOf c = some r) : linkCommand op r = c := by
  cases c <;> cases ho <;> cases hr
  case undefinedOpcode => exact linkCommand_of_not_command (by simpa [Instr.wellFormed] using hc) r
  all_goals rfl

theorem wordOpcode_requestWord (op : Byte) (r : LinkReq) : wordOpcode (requestWord op r) = op := by
  unfold wordOpcode requestWord
  iterate 3 rw [BitVec.extractLsb'_append_eq_of_add_le (by decide)]
  exact BitVec.extractLsb'_append_eq_right

theorem wordRequest_requestWord (op : Byte) (r : LinkReq) : wordRequest (requestWord op r) = r := by
  obtain ⟨window, field, index, value⟩ := r
  unfold wordRequest requestWord
  rw [LinkReq.mk.injEq]
  refine ⟨?_, ?_, ?_, BitVec.extractLsb'_append_eq_left⟩
  · iterate 3 rw [BitVec.extractLsb'_append_eq_of_add_le (by decide)]
    exact BitVec.extractLsb'_append_eq_left
  · iterate 2 rw [BitVec.extractLsb'_append_eq_of_add_le (by decide)]
    exact BitVec.extractLsb'_append_eq_left
  · rw [BitVec.extractLsb'_append_eq_of_add_le (by decide)]
    exact BitVec.extractLsb'_append_eq_left

/-- Settles O53. -/
theorem requestRoundTrip : Obligations.RequestRoundTrip := by
  intro c x hc hx
  obtain ⟨op, r, ho, hr, rfl⟩ : ∃ op r, opcodeOf c = some op ∧ requestOf c = some r ∧ requestWord op r = x := by
    unfold encodeRequest at hx
    split at hx
    · next op r ho hr => exact ⟨op, r, ho, hr, Option.some.inj hx⟩
    · cases hx
  have hdecode : decodeRequest (requestWord op r) = c := by
    rw [decodeRequest, wordOpcode_requestWord, wordRequest_requestWord, linkCommand_of_request hc ho hr]
  refine ⟨hdecode, ?_⟩
  rw [decodeTableWord, if_pos rfl, BitVec.ofNat_toNat, BitVec.setWidth_eq, hdecode]

/-- Settles O54: both are the frame of the word's opcode and request. -/
theorem serialFrameRunsCommand : Obligations.SerialFrameRunsCommand := by
  intro s x h
  rw [State.serialFrame_complete h (length_bitsOfWord x), wordOfBits_bitsOfWord]
  exact exec_request s (opcodeOf_linkCommand _ _) (requestOf_linkCommand _ _)

end Sys2Proof.Machine
end

section
/-! ### The checks before a command, and the answer as it travels (R177, R180) -/

namespace Sys2Proof.Machine

open Sys2Proof

set_option Elab.async false

section
variable {s : State} {c : Instr} {op : Byte} {r : LinkReq}

/-- Check 1: with BUSY on, any other request than STATUS and the read commands is not executed. -/
theorem busy_answers (h : s.receives = true) (busy : s.link.busy = true) (ho : opcodeOf c = some op)
    (hop : runsWhileBusy op = false) : ∃ t, exec c s = .next t ∧ s.Answered t op .busy [] ∧ s.apartFromAnswer t = s := by
  obtain ⟨op', r, hop', hr⟩ := requestOf_of_opcode (c := c) (by simp [ho])
  obtain rfl : op' = op := Option.some.inj (hop'.symm.trans ho)
  have hcheck : ((s.frameEnded Config.frameClocks).link.busy && !runsWhileBusy op') = true := by
    simp [State.frameEnded, busy, hop]
  refine ⟨(s.frameEnded Config.frameClocks).setLatch ⟨.busy, op', dataOf []⟩, ?_, ⟨rfl, rfl, rfl⟩, rfl⟩
  rw [exec_request s ho hr, State.frame, if_pos h, State.executeRequest, if_pos hcheck]

/-- Check 2. -/
theorem undefinedOpcode_answers (h : s.LinkReady) (hop : isCommandOpcode op = false) (r : LinkReq) :
    ∃ t, exec (.undefinedOpcode op r) s = .next t ∧ s.Answered t op .badField [] ∧ s.apartFromAnswer t = s :=
  exec_answered_only rfl h.receives (.inl h.idle) (State.runOpcode_of_not_command hop _ r)

theorem State.withWindow_of_above (h : 15 < r.window.toNat) (run : WinId → Reply) :
    s.withWindow r run = s.reply .badWindow :=
  dif_neg (Nat.not_lt.mpr h)

/-- Check 3, for the commands that name a window. -/
theorem badWindow_answers (h : s.receives = true) (hb : s.link.busy = false ∨ runsWhileBusy op = true)
    (hw : 15 < r.window.toNat) (ho : opcodeOf c = some op)
    (hc : c ∈ [.stageWrite r, .stageRead r, .enable r, .disable r, .suspend r, .resume r, .windowRead r, .bankRead r,
      .claimRead r, .counterRead r, .counterClear r]) :
    ∃ t, exec c s = .next t ∧ s.Answered t op .badWindow [] ∧ s.apartFromAnswer t = s := by
  simp only [List.mem_cons, List.not_mem_nil, or_false] at hc
  rcases hc with rfl | rfl | rfl | rfl | rfl | rfl | rfl | rfl | rfl | rfl | rfl <;> cases ho
  all_goals exact exec_answered_only rfl h hb (State.withWindow_of_above hw _)

/-- The read commands that name a window run while BUSY is on. -/
theorem badWindow_answers_read (h : s.receives = true) (hw : 15 < r.window.toNat) (ho : opcodeOf c = some op)
    (hc : c ∈ [.stageRead r, .windowRead r, .bankRead r, .claimRead r, .counterRead r]) :
    ∃ t, exec c s = .next t ∧ s.Answered t op .badWindow [] ∧ s.apartFromAnswer t = s := by
  have hb : runsWhileBusy op = true := by
    simp only [List.mem_cons, List.not_mem_nil, or_false] at hc
    rcases hc with rfl | rfl | rfl | rfl | rfl <;> cases ho <;> rfl
  refine badWindow_answers (r := r) h (.inr hb) hw ho ?_
  simp only [List.mem_cons, List.not_mem_nil, or_false] at hc ⊢
  tauto

end

/-- The eight bytes of an answer, one by one (R177). -/
theorem Answer.bytes_eq (x : Answer) :
    x.bytes = [x.status.code, x.opcode, x.data[0], x.data[1], x.data[2], x.data[3], x.data[4], x.data[5]] := by
  have hdata : x.data.toList = [x.data[0], x.data[1], x.data[2], x.data[3], x.data[4], x.data[5]] := by
    refine List.ext_getElem (by simp) fun i hi _ => ?_
    rw [Vector.length_toList] at hi
    interval_cases i <;> simp
  rw [Answer.bytes, hdata]

/-- Bit n of byte k of an answer, the most significant first (R177). -/
theorem Answer.bit_of_lt (x : Answer) {k n : Nat} (hk : k < 8) (hn : n < 8) :
    x.bit (8 * k + n) = (x.bytes.getD k 0).getLsbD (7 - n) := by
  have hdiv : (8 * k + n) / 8 = k := by omega
  have hmod : (8 * k + n) % 8 = n := by omega
  have hlt : 8 * k + n < Config.frameClocks := by
    simp only [Config.frameClocks]
    omega
  rw [Answer.bit, if_pos hlt, hdiv, hmod]

/-- From the 65th clock on SDO carries 0 (R177). -/
theorem Answer.bit_of_ge (x : Answer) (n : Nat) : x.bit (64 + n) = false :=
  if_neg (Nat.not_lt.mpr (Nat.le_add_right 64 n))

/-- Settles O43: checks 1 to 3, the tables of codes, and the answer's bits. -/
theorem requestChecks : Obligations.RequestChecks := by
  refine ⟨fun s c op h busy ho hop => ?_, fun s op r h hop => undefinedOpcode_answers h hop r,
    fun s r c op h hw ho hc => badWindow_answers h.receives (.inl h.idle) hw ho hc,
    fun s r c op h hw ho hc => badWindow_answers_read h hw ho hc, ⟨rfl, rfl⟩,
    fun x n k => ⟨fun hk hn => ?_, x.bit_of_ge n⟩⟩
  · exact busy_answers h busy ho (by rw [← Bool.not_eq_true, runsWhileBusy_iff]; exact hop)
  · rw [← x.bytes_eq, x.bit_of_lt hk hn]

end Sys2Proof.Machine
end

section
/-! ### The queue of waiting commands

A step takes its command from the front of the queue before it executes it; the command finds the rest of the queue and leaves it as
it is (log 4). -/

namespace Sys2Proof.Machine

open Sys2Proof

set_option Elab.async false

/-- The queue of commands is part of the base. -/
theorem State.pending_of_base {s t : State} (h : t.base = s.base) : t.pending = s.pending := congrArg Base.pending h

/-- The increment ticks the time base and takes the due deadlines: neither reaches the queue. -/
theorem State.increment_pending (s : State) : s.increment.pending = s.pending := congrArg Base.pending s.base_increment

theorem State.grantTo_pending (s : State) (r : Requester) : (s.grantTo r).pending = s.pending := by
  unfold State.grantTo
  split <;> rfl

/-- A request reaches the queue neither by the drains it begins, nor by the records it takes, nor by the field it sets. -/
theorem State.Request.pending {s t : State} (h : s.Request t) : t.pending = s.pending := by
  cases h with
  | enable w off valid => exact State.pending_of_base (s.base_takeRecords w)
  | drain w target op active draining =>
    exact State.pending_of_base ((State.base_recordLongOp _ op [w]).trans (s.base_drainEntry w target))
  | restart => exact State.pending_of_base ((State.base_recordLongOp _ _ _).trans (s.base_restartAll _))
  | _ => rfl

theorem State.FrameEvent.pending {s t : State} (h : s.FrameEvent t) : t.pending = s.pending := by
  obtain ⟨a, x, o, u, a', x', o', request⟩ := h
  exact request.pending

/-- No event reaches the queue: those of a window, a port, the merge engine or a deadline keep the base, and the release of RSTn
carries the queue over into the state after reset. -/
theorem State.Event.pending {s t : State} (h : s.Event t) : t.pending = s.pending := by
  cases h with
  | dispatch p e _ => exact State.pending_of_base ((State.base_settle _ p _).trans (s.base_treat p e))
  | complete o ok rdata _ => exact State.pending_of_base (s := s) (s.issueRetired.base_route o ok rdata)
  | increment => exact s.increment_pending
  | deadline d => exact State.pending_of_base (s.base_takeDeadline d)
  | grant r _ => exact s.grantTo_pending r
  | frame t hf => exact hf.pending
  | _ => rfl

/-- Settles O2: a command completes as one of the events of `exec_event`, and no event changes the queue. -/
theorem commandsKeepTheQueue : Obligations.CommandsKeepTheQueue := by
  intro c s
  obtain ⟨t, hexec, hevent⟩ := exec_event c s
  exact ⟨t, hexec, hevent.pending⟩

/-- Settles O1. -/
theorem stepRunsFrontCommand : Obligations.StepRunsFrontCommand := by
  intro s c rest hfront
  rw [step, hfront]

end Sys2Proof.Machine
end
